-- ==== Sys2Proof/Word.lean ====
section
/-! DEFINITION. The words of the ADC SPI controller: bytes, 16-bit register words, and the values of the number type
`Numerics.V` in which voltages are delivered (spec/00_scope.md R8, R11). -/
namespace Sys2Proof

/-- One byte on the wire, or one 8-bit host operand (00 R11, 30 R100). -/
abbrev Byte := BitVec 8

/-- A 16-bit register word or host command word (30 R90). -/
abbrev Word := BitVec 16

/-- A channel index as the 3-bit `activeChannel` holds it (10 R21). -/
abbrev Channel := BitVec 3

/-- A value of the number type `Numerics.V` (00 R8, 44 R212). The source names no format (91 N9); any countable format is
covered: its rational values are `finite`, whatever else it has (an infinity, a not-a-number) is `special`, by a number.
DESIGN CHOICE (log 4). -/
inductive Volts where
  | finite (q : Rat)
  | special (code : Nat)
  deriving DecidableEq, Repr, Inhabited

/-- The domain of `vRef`: "a positive real held as `Numerics.V`" (10 R26, 92 D27). -/
def Volts.isPositive : Volts → Bool
  | .finite q => decide (0 < q)
  | .special _ => false

/-- What the transport answers to one `Xfer` or one `TxnBegin` (00 R13, 60 R235): the byte it returns, and whether it would
rather fail. A `TxnBegin` uses the second part only. -/
structure Answer where
  byte : Byte
  fails : Bool
  deriving DecidableEq, Repr, Inhabited

end Sys2Proof
end

