-- ==== Sys2Proof/Config.lean ====
section
/-! DEFINITION. The implementation parameters of spec/00_scope.md R8: the ones this hardware fixes, as numbers, and the ones the
spec leaves OPEN, as constants with no body, so that no proof can see their values. -/
namespace Sys2Proof

/-- The arithmetic of the converter (00 R8, 44 R212): a number type `V` and total operations on it. Nothing else is assumed
of `mul`, `div`, `sub`; `ofNat` is exact, see `Numerics.Admissible`. -/
structure Numerics (V : Type) where
  ofNat : Nat → V
  ofVref : Rat → V
  mul : V → V → V
  div : V → V → V
  sub : V → V → V
  deriving Inhabited

/-- `Numerics` = exact rationals, "the normative reference" (44 R212). Lean's `/` gives 0 for a zero divisor; no rule divides by
zero through it (gain 0 is a free value, 44 R216). -/
def Numerics.exact : Numerics Rat where
  ofNat n := (n : Rat)
  ofVref v := v
  mul a b := a * b
  div a b := a / b
  sub a b := a - b

/-- `ofNat` is "exact for raw < 2^32 in every admissible Numerics" (44 R212); `embed` says which element of `V` a rational is. -/
def Numerics.Admissible {V : Type} (num : Numerics V) (embed : Rat → V) : Prop :=
  ∀ n : Nat, n < 4294967296 → num.ofNat n = embed (n : Rat)

namespace Config

/-- `CHANNEL_COUNT` of this hardware (00 R8, 92 D1). -/
abbrev channelCount : Nat := 8

/-- `MONITOR_CHANNELS`, the last two indices (00 R8, 92 D2). -/
def monitorChannels : List Nat := [channelCount - 2, channelCount - 1]

/-- `RESET_BYTE_COUNT` (00 R8). -/
def resetByteCount : Nat := 4

/-- `SINGLE_CODE` (00 R8, 30 R91). -/
def singleCode : BitVec 3 := 0b001

/-- `CONTINUOUS_CODE` (00 R8, 30 R91). -/
def continuousCode : BitVec 3 := 0b000

/-- `FULL_SCALE_UNIPOLAR` = 2^24 (00 R8). -/
def fullScaleUnipolar : Nat := 16777216

/-- `FULL_SCALE_BIPOLAR` = 2^23 (00 R8). -/
def fullScaleBipolar : Nat := 8388608

/-- `DEFAULT_RATE_CODE`, OPEN (00 R8, 92 D3). -/
opaque defaultRateCode : Byte

/-- `DUMMY_BYTE`, OPEN (00 R8, 92 D4). -/
opaque dummyByte : Byte

/-- `settleDelayMs`, from the 8-bit rate code to milliseconds, OPEN (00 R8, 92 D5). -/
opaque settleDelayMs : Byte → Nat

/-- `MIN_SETTLE_MS`, OPEN (00 R8, 92 D5). -/
opaque minSettleMs : Nat

/-- By how much `INIT_DELAY_MS` exceeds its lower bound, OPEN (00 R8, 92 D5). -/
opaque initDelaySlackMs : Nat

/-- `INIT_DELAY_MS`, any number `>= 2 * MIN_SETTLE_MS` (00 R8, 92 D5). -/
def initDelayMs : Nat := 2 * minSettleMs + initDelaySlackMs

/-- What `Numerics` leaves OPEN (00 R8, 92 D9): all of `ofVref`, `mul`, `div`, `sub`, and `ofNat` from 2^32 on. -/
opaque openNumerics : Numerics Volts

/-- `Numerics`: the OPEN operations, with an `ofNat` that is exact below 2^32 by construction (44 R212; log 5). -/
def numerics : Numerics Volts :=
  { openNumerics with ofNat := fun n => if n < 4294967296 then .finite (n : Rat) else openNumerics.ofNat n }

/-- `transportMayFail`, OPEN (00 R8, 92 D14). State holds it, so that claims range over both values (log 8). -/
opaque transportMayFail : Bool

/-- `CS_LINE` of the `construct` that the reset state follows, OPEN (00 R8; log 3). -/
opaque csLine : Nat

/-- `BUS_FREQUENCY` of the `construct` that the reset state follows, OPEN (00 R8; log 3). -/
opaque busFrequency : Nat

/-- One less than the numerator and one less than the denominator of a `VREF`, OPEN. -/
opaque vRefParts : Nat × Nat

/-- `VREF` of the `construct` that the reset state follows: an OPEN positive rational (00 R8, 10 R26; log 3). -/
def vRef : Volts := .finite (((vRefParts.1 + 1 : Nat) : Rat) / ((vRefParts.2 + 1 : Nat) : Rat))

/-- FREE VALUE: the `n`-th answer of a transport whose answers are not listed in `State.answers` (00 R10, 93 U14, U15; log 7). -/
opaque freeAnswer : Nat → Answer

/-- FREE VALUE: the voltage delivered where the spec gives none: gain 0 (44 R216) or a `vRef` outside its domain (93 U8); log 10. -/
opaque freeVolts : Nat → Volts

end Config
end Sys2Proof
end

