-- ==== Sys2Proof/Syntax.lean ====
section
/-! DEFINITION. The instructions: one constructor per row of spec/opcode_table.json, and the words a host issue carries
(spec/30_encoding.md R90, R95 to R99, R105). -/
namespace Sys2Proof

/-- One constructor per row of the opcode table: the twelve host operations with their typed operands (30 R99, R100) and the
five wire frames, which have no operands (41 R141 to R145: "Operands: none"). -/
inductive Instr where
  /-- 42 R160; its three operands are the side inputs sampled at issue (30 R98). -/
  | construct
  /-- 43 R192, the operation the table calls by the mnemonic that Lean keeps for itself. -/
  | initializeDevice
  /-- 43 R190, the device reset. -/
  | reset
  /-- 42 R162. -/
  | setActiveChannel (ch : Byte)
  /-- 42 R164. -/
  | setGain (g : Byte)
  /-- 42 R166. -/
  | setBipolar (b : Bool)
  /-- 42 R170. -/
  | setInputBuffer (b : Bool)
  /-- 42 R172. -/
  | setUpdateRate (rateCode : Byte)
  /-- 42 R174. -/
  | setConversionMode (single : Bool)
  /-- 43 R194. -/
  | getReadingRaw (ch : Byte)
  /-- 44 R214. -/
  | getReadingVolts (ch : Byte)
  /-- 42 R168. -/
  | setPolarity (b : Bool)
  /-- 41 R141, a wire frame. -/
  | writeConfigRegister
  /-- 41 R142, a wire frame. -/
  | writeModeRegister
  /-- 41 R143, a wire frame. -/
  | startConversion
  /-- 41 R144, a wire frame. -/
  | readConversionResult
  /-- 41 R145, a wire frame. -/
  | resetFrame
  deriving DecidableEq, Repr

/-- Whose exclusive-transaction bracket a frame runs in: its own, with chip-select released afterwards, or the caller's
(30 R103; the column "Bracket" of V-table 3). It tells `startConversion` from `writeModeRegister`, whose bytes are the same. -/
inductive Bracket where
  | own
  | caller
  deriving DecidableEq, Repr

/-- What an issue carries: a 16-bit host command word (30 R98), or the bytes of a wire frame, first byte first (30 R95 to R97). -/
inductive Words where
  | command (w : Word)
  | frame (bracket : Bracket) (bytes : List Byte)
  deriving DecidableEq, Repr

/-- The side inputs `CS_LINE`, `BUS_FREQUENCY`, `VREF` (30 R98). -/
structure SideInputs where
  csLine : Nat
  busFrequency : Nat
  vRef : Volts
  deriving DecidableEq, Repr

/-- The side inputs written `cs=<id> freq=<f> vref=<real>` (30 R104): the literal enters the number type by `ofVref` (00 R8). -/
def SideInputs.ofLiteral (cs freq : Nat) (vref : Rat) : SideInputs :=
  ⟨cs, freq, Config.numerics.ofVref vref⟩

/-- One issue of the host: its words, and the side inputs as they stand when it is issued (30 R98, 20 R72). -/
structure Issue where
  words : Words
  side : SideInputs
  deriving DecidableEq, Repr

/-- The twelve host operations, as against the five internal frames, which "have no host command word" (30 R105). -/
def Instr.isHostOperation : Instr → Bool
  | .construct | .initializeDevice | .reset | .setActiveChannel _ | .setGain _ | .setBipolar _ | .setInputBuffer _
  | .setUpdateRate _ | .setConversionMode _ | .getReadingRaw _ | .getReadingVolts _ | .setPolarity _ => true
  | .writeConfigRegister | .writeModeRegister | .startConversion | .readConversionResult | .resetFrame => false

/-- The row's name (30 R99; spec/opcode_table.json). -/
def Instr.mnemonic : Instr → String
  | .construct => "construct"
  | .initializeDevice => "initialize"
  | .reset => "reset"
  | .setActiveChannel _ => "setActiveChannel"
  | .setGain _ => "setGain"
  | .setBipolar _ => "setBipolar"
  | .setInputBuffer _ => "setInputBuffer"
  | .setUpdateRate _ => "setUpdateRate"
  | .setConversionMode _ => "setConversionMode"
  | .getReadingRaw _ => "getReadingRaw"
  | .getReadingVolts _ => "getReadingVolts"
  | .setPolarity _ => "setPolarity"
  | .writeConfigRegister => "writeConfigRegister"
  | .writeModeRegister => "writeModeRegister"
  | .startConversion => "startConversion"
  | .readConversionResult => "readConversionResult"
  | .resetFrame => "resetFrame"

/-- A boolean operand as the programs write it (30 R104). -/
def boolText : Bool → String
  | true => "true"
  | false => "false"

/-- The operand as the programs write it, in decimal (30 R104); `construct`'s three side inputs are no part of the instruction. -/
def Instr.operandText : Instr → Option String
  | .setActiveChannel x | .setGain x | .setUpdateRate x | .getReadingRaw x | .getReadingVolts x => some (toString x.toNat)
  | .setBipolar b | .setInputBuffer b | .setConversionMode b | .setPolarity b => some (boolText b)
  | .construct | .initializeDevice | .reset | .writeConfigRegister | .writeModeRegister | .startConversion
  | .readConversionResult | .resetFrame => none

/-- The line of a program (30 R104): the mnemonic, and the operand where there is one. -/
def Instr.text (i : Instr) : String :=
  match i.operandText with
  | some t => i.mnemonic ++ " " ++ t
  | none => i.mnemonic

end Sys2Proof
end

