-- ==== Sys2Proof/WellFormed.lean ====
section
/-! DEFINITION. Which words are well formed: the four conditions of spec/30_encoding.md R102 on a host command word, and the frame
forms of R95 to R97 and R103, each said directly, without the decoder. Every `Instr` is well formed by its type (60 R237). -/
namespace Sys2Proof

/-- The field `op`, bits `[15:12]` (30 R98). -/
def opField (w : Word) : BitVec 4 := w.extractLsb' 12 4

/-- The field `rsv`, bits `[11:8]` (30 R98). -/
def rsvField (w : Word) : BitVec 4 := w.extractLsb' 8 4

/-- The field `arg`, bits `[7:0]` (30 R98). -/
def argField (w : Word) : Byte := w.extractLsb' 0 8

/-- Operation numbers 12 to 15 are reserved (30 R99, R102). -/
def opAssigned (w : Word) : Bool := (opField w).toNat < 12

/-- `rsv` must be 0 (30 R98, R102). -/
def rsvZero (w : Word) : Bool := rsvField w == 0

/-- The operations without operand: `construct`, `initialize`, `reset` (30 R99). -/
def opHasNoOperand (w : Word) : Bool := (opField w).toNat ∈ [0, 1, 2]

/-- The operations with a boolean operand: `setBipolar`, `setInputBuffer`, `setConversionMode`, `setPolarity` (30 R99). -/
def opHasBoolean (w : Word) : Bool := (opField w).toNat ∈ [5, 6, 8, 11]

/-- `arg` must be 0 on an operation without operand (30 R102). -/
def noOperandOk (w : Word) : Bool := !opHasNoOperand w || argField w == 0

/-- `arg[7:1]` must be 0 on a boolean operation (30 R100, R102). -/
def booleanOk (w : Word) : Bool := !opHasBoolean w || (argField w).extractLsb' 1 7 == 0

/-- A legal host command word: none of R102's four conditions for an illegal one holds. -/
def commandWellFormed (w : Word) : Bool := opAssigned w && rsvZero w && noOperandOk w && booleanOk w

/-- A frame of R95 to R97, with its length (R103) and the bracket it runs in (V-table 3). The payload of a write frame and
the dummies of the read frame may be any bytes: the table's mask covers the command byte only. -/
def frameWellFormed (b : Bracket) (bytes : List Byte) : Bool :=
  (bytes.head? == some 0x10 && bytes.length == 3 && b == .own) ||
  (bytes.head? == some 0x08 && bytes.length == 3) ||
  (bytes.head? == some 0x58 && bytes.length == 4 && b == .caller) ||
  (bytes == List.replicate Config.resetByteCount 0xFF && b == .own)

/-- Well-formed words of either layer. -/
def Words.wellFormed : Words → Bool
  | .command w => commandWellFormed w
  | .frame b bytes => frameWellFormed b bytes

/-- "At the abstract-operation level every operation is well-formed by type" (60 R237): the operands are 8-bit numbers and
booleans, and a frame has none. An out-of-range channel or gain is an operand's value, not an ill-formed instruction (30 R102). -/
def Instr.wellFormed : Instr → Bool
  | .construct | .initializeDevice | .reset => true
  | .setActiveChannel _ | .setGain _ | .setUpdateRate _ | .getReadingRaw _ | .getReadingVolts _ => true
  | .setBipolar _ | .setInputBuffer _ | .setConversionMode _ | .setPolarity _ => true
  | .writeConfigRegister | .writeModeRegister | .startConversion | .readConversionResult | .resetFrame => true

end Sys2Proof
end

