-- ==== Sys2Proof/Decode.lean ====
section
/-! DEFINITION. The decoder of host command words and wire frames, total on any words and rejecting by name, and after it the
encoder, both from the tables of spec/30_encoding.md (R95 to R99, R102, R103) and spec/opcode_table.json. -/
namespace Sys2Proof

/-- Why words do not decode (30 R102, R103). The status the host sees is `IllegalCommand` in every case (60 R237). -/
inductive DecodeError where
  /-- `op` in 12 to 15. -/
  | reservedOperation
  /-- `rsv != 0`. -/
  | reservedField
  /-- A non-zero `arg` on `construct`, `initialize`, `reset`. -/
  | operandNotZero
  /-- `arg[7:1] != 0` on a boolean operation. -/
  | booleanNotOneBit
  /-- A frame of three or four bytes that is none of R95 to R97. -/
  | unknownFrame
  /-- A frame of another length (R103). -/
  | frameLength
  deriving DecidableEq, Repr

/-- An operation without operand: `arg` must be 0 (30 R102). -/
def decodeNoOperand (arg : Byte) (i : Instr) : Except DecodeError Instr :=
  if arg = 0 then .ok i else .error .operandNotZero

/-- A boolean operand is `arg[0]`, and `arg[7:1]` must be 0 (30 R100). -/
def decodeBoolean (arg : Byte) (i : Bool → Instr) : Except DecodeError Instr :=
  if arg.extractLsb' 1 7 = 0 then .ok (i (arg.getLsbD 0)) else .error .booleanNotOneBit

/-- The operation `op` with its `arg` (30 R99). -/
def decodeOperation (op : Nat) (arg : Byte) : Except DecodeError Instr :=
  match op with
  | 0 => decodeNoOperand arg .construct
  | 1 => decodeNoOperand arg .initializeDevice
  | 2 => decodeNoOperand arg .reset
  | 3 => .ok (.setActiveChannel arg)
  | 4 => .ok (.setGain arg)
  | 5 => decodeBoolean arg .setBipolar
  | 6 => decodeBoolean arg .setInputBuffer
  | 7 => .ok (.setUpdateRate arg)
  | 8 => decodeBoolean arg .setConversionMode
  | 9 => .ok (.getReadingRaw arg)
  | 10 => .ok (.getReadingVolts arg)
  | 11 => decodeBoolean arg .setPolarity
  | _ => .error .reservedOperation

/-- A host command word: `op[15:12]`, `rsv[11:8]`, `arg[7:0]` (30 R98). -/
def decodeCommand (w : Word) : Except DecodeError Instr :=
  if w.extractLsb' 8 4 = 0 then decodeOperation (w.extractLsb' 12 4).toNat (w.extractLsb' 0 8)
  else .error .reservedField

/-- A frame of three bytes: `W16` (30 R95), told apart by the command byte and, for `0x08`, by the bracket (30 R103). -/
def decodeWriteFrame (b : Bracket) (cmd : Byte) : Except DecodeError Instr :=
  match b with
  | .own =>
    if cmd = 0x10 then .ok .writeConfigRegister
    else if cmd = 0x08 then .ok .writeModeRegister
    else .error .unknownFrame
  | .caller => if cmd = 0x08 then .ok .startConversion else .error .unknownFrame

/-- A frame of four bytes: `R24` (30 R96) or `RST` (30 R97). -/
def decodeLongFrame (b : Bracket) (bytes : List Byte) : Except DecodeError Instr :=
  match b with
  | .own => if bytes = [0xFF, 0xFF, 0xFF, 0xFF] then .ok .resetFrame else .error .unknownFrame
  | .caller => if bytes.head? = some 0x58 then .ok .readConversionResult else .error .unknownFrame

/-- A wire frame. The payload bytes of a write frame are the shadow register the primitive reads when it runs (41 R141 to R143:
"Operands: none"), and the dummies are `DUMMY_BYTE`, so no payload bit selects anything (log 13). -/
def decodeFrame (b : Bracket) : List Byte → Except DecodeError Instr
  | [cmd, _, _] => decodeWriteFrame b cmd
  | [b0, b1, b2, b3] => decodeLongFrame b [b0, b1, b2, b3]
  | _ => .error .frameLength

/-- The decoder. -/
def decode : Words → Except DecodeError Instr
  | .command w => decodeCommand w
  | .frame b bytes => decodeFrame b bytes

/-- A host command word from its fields, `rsv` being 0 (30 R98). -/
def commandWord (op : BitVec 4) (arg : Byte) : Words := .command (op ++ (0 : BitVec 4) ++ arg)

/-- A boolean operand as `arg` (30 R100). -/
def booleanArg (b : Bool) : Byte := if b then 1 else 0

/-- The encoder: the command word of a host operation (30 R99), or the frame of a primitive with the bits outside the table's mask
0 (spec/opcode_table.json; the payload the primitive really sends is read from the shadow, `frameBytes` in Machine/Ops.lean). -/
def encode : Instr → Words
  | .construct => commandWord 0 0
  | .initializeDevice => commandWord 1 0
  | .reset => commandWord 2 0
  | .setActiveChannel ch => commandWord 3 ch
  | .setGain g => commandWord 4 g
  | .setBipolar b => commandWord 5 (booleanArg b)
  | .setInputBuffer b => commandWord 6 (booleanArg b)
  | .setUpdateRate r => commandWord 7 r
  | .setConversionMode b => commandWord 8 (booleanArg b)
  | .getReadingRaw ch => commandWord 9 ch
  | .getReadingVolts ch => commandWord 10 ch
  | .setPolarity b => commandWord 11 (booleanArg b)
  | .writeConfigRegister => .frame .own [0x10, 0, 0]
  | .writeModeRegister => .frame .own [0x08, 0, 0]
  | .startConversion => .frame .caller [0x08, 0, 0]
  | .readConversionResult => .frame .caller [0x58, 0, 0, 0]
  | .resetFrame => .frame .own [0xFF, 0xFF, 0xFF, 0xFF]

/-- The bracket a frame given only by its bytes is taken to run in: the caller's for the read frame, its own otherwise. The rows
`writeModeRegister` and `startConversion` have the same bytes (log 14). -/
def bracketOfFirst (first : Byte) : Bracket := if first = 0x58 then .caller else .own

/-- The words of a table row's bits: 16 bits are a host command word; 24 or 32 bits are a frame whose first byte is the most
significant (30 R95; spec/opcode_table.json: `cmd` is `[23:16]` or `[31:24]`). Other widths are no row's (log 15). -/
def tableWords (nbits w : Nat) : Option Words :=
  if nbits = 16 then some (.command (BitVec.ofNat 16 w))
  else if nbits = 24 then
    some (.frame (bracketOfFirst (BitVec.ofNat 8 (w / 65536)))
      [BitVec.ofNat 8 (w / 65536), BitVec.ofNat 8 (w / 256), BitVec.ofNat 8 w])
  else if nbits = 32 then
    some (.frame (bracketOfFirst (BitVec.ofNat 8 (w / 16777216)))
      [BitVec.ofNat 8 (w / 16777216), BitVec.ofNat 8 (w / 65536), BitVec.ofNat 8 (w / 256), BitVec.ofNat 8 w])
  else none

/-- The instruction the decoder reads from an instruction whose bits are `w`, numbered as spec/opcode_table.json numbers them. -/
def decodeTableWord (nbits w : Nat) : Option Instr :=
  match tableWords nbits w with
  | some words =>
    match decode words with
    | .ok i => some i
    | .error _ => none
  | none => none

end Sys2Proof
end

