-- ==== Sys2Proof/Machine/State.lean ====
section
/-! DEFINITION. The state of the ADC SPI controller: everything spec/10_state.md R20 lists, what its operations return and emit
(00 R7, 20 R74), the host's port (30 R98) and the transport's answers; and the state right after reset (10 R34). -/
namespace Sys2Proof.Machine

/-- The level last driven on the chip-select line (10 R31): `asserted` is electrically low. -/
inductive CsLevel where
  | asserted
  | released
  deriving DecidableEq, Repr

/-- One entry of the channel file (10 R27). -/
structure ChannelConfig where
  gain : Byte
  isBuffered : Bool
  isUnipolar : Bool
  deriving DecidableEq, Repr

/-- The entry `construct` gives every channel: "default gain=1, buffered=true, unipolar=false" (10 R27). -/
def ChannelConfig.default : ChannelConfig := ⟨1, true, false⟩

/-- A transport event (00 R13; the last two 60 R235). -/
inductive Event where
  | txnBegin
  | txnEnd
  | csLow
  | csHigh
  | xfer (out inp : Byte)
  | sleep (ms : Nat)
  | xferFail (out : Byte)
  | txnFail
  deriving DecidableEq, Repr

/-- The statuses of 60 R231. -/
inductive Status where
  | ok
  | invalidChannel
  | transportFailure
  | illegalCommand
  | notConstructed
  deriving DecidableEq, Repr

/-- The status codes of 60 R231. -/
def Status.code : Status → Nat
  | .ok => 0
  | .invalidChannel => 1
  | .transportFailure => 2
  | .illegalCommand => 3
  | .notConstructed => 4

/-- The result of an operation (30 R101): a 32-bit raw value, a voltage, or nothing; and the 24-bit result of the frame
`readConversionResult` (41 R144). -/
inductive Result where
  | nothing
  | raw (v : BitVec 32)
  | volts (v : Volts)
  | raw24 (v : BitVec 24)
  deriving DecidableEq, Repr

/-- What an operation returns (30 R101, 60 R231): `info` is the offending channel of an `InvalidChannel`. -/
structure Response where
  status : Status
  info : Option Byte
  result : Result
  deriving DecidableEq, Repr

/-- Why the machine stops with a fault: never. Every error of this spec ends an operation with a status and leaves the block usable
(60 R230, R240, R241), so it is a next state; this type has no constructor (log 18). -/
inductive Fault where
  deriving DecidableEq, Repr

/-- Why an instruction has no meaning. -/
inductive Refusal where
  /-- Raised by no arm of `exec` any more: every row of the table has its meaning. Safe. -/
  | notModelled (mnemonic : String)
  deriving DecidableEq, Repr

/-- The state of the block, of its host port and of the transport's answers. -/
structure State where
  /-- 10 R26; opaque identifier. -/
  csLine : Nat
  /-- 10 R26; read by no rule. -/
  busFrequency : Nat
  /-- 10 R26; read by the converter only. -/
  vRef : Volts
  /-- 10 R24. -/
  modeRegister : Word
  /-- 10 R25. -/
  configRegister : Word
  /-- 10 R21. -/
  activeChannel : Channel
  /-- 10 R29. -/
  singleConversionMode : Bool
  /-- 10 R27. -/
  channels : Vector ChannelConfig Config.channelCount
  /-- 10 R30. -/
  constructed : Bool
  /-- 10 R30; sticky, cleared by `construct` only. -/
  fault : Bool
  /-- 10 R31. -/
  csLevel : CsLevel
  /-- 10 R32. -/
  txnDepth : Nat
  /-- 20 R74: the event lists of all operations so far, joined in issue order, oldest event first. -/
  events : List Event
  /-- 30 R101: what the last operation returned. -/
  response : Response
  /-- 20 R72, 30 R98: what the host has issued and the block has not begun, oldest first. -/
  pending : List Issue
  /-- 30 R98, 92 D30: the side inputs sampled when the running operation was issued. -/
  sideInputs : SideInputs
  /-- 00 R8, 60 R235: whether the transport may fail; no step writes it (log 8). -/
  transportMayFail : Bool
  /-- 00 R10: what the transport answers to the next `Xfer`s and `TxnBegin`s, first answer first; free values follow (log 7). -/
  answers : List Answer
  /-- How many free values have been taken: the index of the next one (logs 7 and 10). -/
  drawCount : Nat
  deriving DecidableEq, Repr

/-- The response of a normal completion without result (30 R101). -/
def Response.done : Response := ⟨.ok, none, .nothing⟩

/-- The machine right after reset: the block's one reset is `construct` (70 R260), so this is the table of 10 R34, with the OPEN side
inputs of that `construct`, its response, and `csLevel` at the launch premise RELEASED (10 R31; log 2). The host has issued nothing
more and no transport answer is listed. -/
def State.reset : State where
  csLine := Config.csLine
  busFrequency := Config.busFrequency
  vRef := Config.vRef
  modeRegister := 0x2000 ||| Config.defaultRateCode.setWidth 16
  configRegister := 0x0010
  activeChannel := 0
  singleConversionMode := true
  channels := Vector.replicate Config.channelCount ChannelConfig.default
  constructed := true
  fault := false
  csLevel := .released
  txnDepth := 0
  events := []
  response := Response.done
  pending := []
  sideInputs := ⟨Config.csLine, Config.busFrequency, Config.vRef⟩
  transportMayFail := Config.transportMayFail
  answers := []
  drawCount := 0

end Sys2Proof.Machine
end

