-- ==== Sys2Proof/Machine/Operands.lean ====
section
/-! DEFINITION. The operand forms of the operations (spec/30_encoding.md R100) and the byte splitting and joining of wire payloads
(spec/20_memory.md R63). -/
namespace Sys2Proof.Machine

/-- The check on a channel operand: "if `ch` is a valid channel index", `ch < CHANNEL_COUNT` (42 R162, 43 R194, 44 R214). -/
def channelValid (ch : Byte) : Bool := decide (ch.toNat < Config.channelCount)

/-- `ch[2:0]`, the index a checked channel operand names (42 R162). -/
def channelIndex (ch : Byte) : Channel := ch.extractLsb' 0 3

/-- The `isUnipolar` bit that `setPolarity b` writes: `true` = bipolar (42 R168). -/
def unipolarBit (b : Bool) : Bool := !b

/-- `v[15:8]`, sent first (20 R63). -/
def highByte (v : Word) : Byte := v.extractLsb' 8 8

/-- `v[7:0]`, sent second (20 R63). -/
def lowByte (v : Word) : Byte := v.extractLsb' 0 8

/-- `b0 ‖ b1 ‖ b2`: the first byte received is the most significant (20 R63, 41 R144). -/
def joinRaw (b0 b1 b2 : Byte) : BitVec 24 := b0 ++ b1 ++ b2

/-- `zext_32(raw24)` (43 R194): never sign-extended (41 R147). -/
def widenRaw (raw : BitVec 24) : BitVec 32 := raw.setWidth 32

end Sys2Proof.Machine
end

