-- ==== Sys2Proof/Machine/Encoder.lean ====
section
/-! DEFINITION. The register encoder: the pure functions of spec/40_register_encoder.md from gain, polarity, buffering, channel and rate
to the two 16-bit register words. -/
namespace Sys2Proof.Machine

/-- `gainBits` (40 R121): "exact lookup …; any unmatched value → 0". -/
def gainBits (gain : Byte) : BitVec 3 :=
  if gain = 1 then 0b000
  else if gain = 2 then 0b001
  else if gain = 4 then 0b010
  else if gain = 8 then 0b011
  else if gain = 16 then 0b100
  else if gain = 32 then 0b101
  else if gain = 64 then 0b110
  else if gain = 128 then 0b111
  else 0b000

/-- `encodeConfig` (40 R122), the configuration word of 30 R92. -/
def encodeConfig (ch : Channel) (cfg : ChannelConfig) : Word :=
  (BitVec.ofBool cfg.isUnipolar).setWidth 16 <<< 12 ||| (gainBits cfg.gain).setWidth 16 <<< 8 |||
    (BitVec.ofBool cfg.isBuffered).setWidth 16 <<< 4 ||| ch.setWidth 16

/-- `withRate` (40 R125): "clears the low byte of the mode register, ORs in `rateCode`". -/
def withRate (mode : Word) (rateCode : Byte) : Word := (mode &&& 0xFF00) ||| rateCode.setWidth 16

/-- The value of the field `[15:13]` for a conversion mode (40 R126, 30 R91). -/
def convCode (single : Bool) : BitVec 3 := if single then Config.singleCode else Config.continuousCode

/-- `withConvMode` (40 R126): bits `[15:13]` are assigned, bits `[12:0]` are kept. -/
def withConvMode (mode : Word) (single : Bool) : Word := (mode &&& 0x1FFF) ||| (convCode single).setWidth 16 <<< 13

/-- `defaultMode` (40 R127). -/
def defaultMode : Word := withConvMode (withRate 0x0000 Config.defaultRateCode) true

/-- `modeRegister[7:0]`, the update-rate code (30 R91). -/
def rateField (mode : Word) : Byte := mode.extractLsb' 0 8

/-- `modeRegister[15:13]`, the conversion-mode select (30 R91). -/
def convModeField (mode : Word) : BitVec 3 := mode.extractLsb' 13 3

end Sys2Proof.Machine
end

