-- ==== Sys2Proof/Machine/Flags.lean ====
section
/-! DEFINITION. The three flags of spec/10_state.md R29 and R30. There are no arithmetic condition codes. -/
namespace Sys2Proof.Machine

/-- What `singleConversionMode` mirrors: `modeRegister[15:13] == SINGLE_CODE` (10 R29). -/
def modeIsSingle (mode : Word) : Bool := convModeField mode == Config.singleCode

/-- Written by `construct` and `setConversionMode` only (10 R29). -/
def setSingleFlag (single : Bool) (s : State) : State := { s with singleConversionMode := single }

/-- Set when an operation ends with `TransportFailure` (10 R30, 60 R236). -/
def setFault (s : State) : State := { s with fault := true }

/-- What `construct` does to the spec's own flags: `fault <- 0`, `constructed <- 1` (42 R160). -/
def markConstructed (s : State) : State := { s with fault := false, constructed := true }

end Sys2Proof.Machine
end

