-- ==== Sys2Proof/Machine/Ops.lean ====
section
/-! DEFINITION. The named operations the meanings are built from: the transport primitives of spec/00_scope.md R13, how an operation
ends (normally, with a status, or by the abort procedure of spec/60_exceptions.md R236), the shadow updates, and the wire
primitives of spec/41_wire_primitives.md. -/
namespace Sys2Proof.Machine

/-- How a sequence of pseudocode lines ends (00 R15, 60 R235): it has run, with a value; or some `Xfer` or `TxnBegin` in it raised
`TransportFailure`, and the state is the one the lines before left, with the failure's event. -/
inductive Flow (α : Type) where
  | done (a : α) (s : State)
  | raised (s : State)

/-- One sequence after another: after a `raise` no later line runs (00 R15). -/
def Flow.andThen {α β : Type} (f : Flow α) (k : α → State → Flow β) : Flow β :=
  match f with
  | .done a s => k a s
  | .raised s => .raised s

/-! ### The transport's answers (00 R10, 60 R235) -/

/-- The `k`-th answer from now: a listed one, or a free value. -/
def answerAt (k : Nat) (s : State) : Answer :=
  (s.answers[k]?).getD (Config.freeAnswer (s.drawCount + (k - s.answers.length)))

/-- Whether the `k`-th answer from now is a failure: only "when the parameter `transportMayFail` is true" (60 R235). -/
def answerFails (k : Nat) (s : State) : Bool := s.transportMayFail && (answerAt k s).fails

/-- `n` answers are used up. -/
def dropAnswers (n : Nat) (s : State) : State :=
  { s with answers := s.answers.drop n, drawCount := s.drawCount + (n - s.answers.length) }

/-! ### Primitives (00 R13) -/

/-- Appends one event to the event list (00 R13). -/
def emit (e : Event) (s : State) : State := { s with events := s.events ++ [e] }

/-- `TxnBegin()`; a failing one appends `TxnFail` and does not raise `txnDepth` (60 R235). -/
def txnBegin (s : State) : Flow Unit :=
  if answerFails 0 s then .raised (emit .txnFail (dropAnswers 1 s))
  else .done () { emit .txnBegin (dropAnswers 1 s) with txnDepth := s.txnDepth + 1 }

/-- `TxnEnd()`, which cannot fail (60 R235). -/
def txnEnd (s : State) : State := { emit .txnEnd s with txnDepth := s.txnDepth - 1 }

/-- `CsAssert()`; it appends its event also when the line is asserted already. -/
def csAssert (s : State) : State := { emit .csLow s with csLevel := .asserted }

/-- `CsRelease()`; it appends its event also when the line is released already. -/
def csRelease (s : State) : State := { emit .csHigh s with csLevel := .released }

/-- `Xfer(o) -> i`; a failing one appends `XferFail(o)` (60 R235). -/
def xfer (out : Byte) (s : State) : Flow Byte :=
  if answerFails 0 s then .raised (emit (.xferFail out) (dropAnswers 1 s))
  else .done (answerAt 0 s).byte (emit (.xfer out (answerAt 0 s).byte) (dropAnswers 1 s))

/-- `Sleep(d)`: the event, and no time (00 R13, 60 R245). -/
def sleep (ms : Nat) (s : State) : State := emit (.sleep ms) s

/-- `MemWrite(cmd, 2, v)`: high byte first, the received bytes discarded (00 R14). -/
def memWrite (cmd : Byte) (v : Word) (s : State) : Flow Unit :=
  (xfer cmd s).andThen fun _ s => (xfer (highByte v) s).andThen fun _ s => (xfer (lowByte v) s).andThen fun _ s =>
    .done () s

/-- `MemRead(cmd, 3)`: the byte received with the command is discarded, the three after it are the result (00 R14). -/
def memRead (cmd : Byte) (s : State) : Flow (BitVec 24) :=
  (xfer cmd s).andThen fun _ s => (xfer Config.dummyByte s).andThen fun b0 s =>
    (xfer Config.dummyByte s).andThen fun b1 s => (xfer Config.dummyByte s).andThen fun b2 s =>
      .done (joinRaw b0 b1 b2) s

/-- `n` times `Xfer(o)`, the received bytes discarded (41 R145). -/
def xferTimes (out : Byte) : Nat → State → Flow Unit
  | 0, s => .done () s
  | n + 1, s => (xfer out s).andThen fun _ s => xferTimes out n s

/-! ### How an operation ends (60 R230, R236, R240, R241) -/

/-- `TxnEnd()` "once for every bracket still open" (60 R236). -/
def closeBrackets : Nat → State → State
  | 0, s => s
  | n + 1, s => closeBrackets n (txnEnd s)

/-- `CsRelease()` "if `csLevel = ASSERTED`" (60 R236). -/
def releaseIfAsserted (s : State) : State :=
  match s.csLevel with
  | .asserted => csRelease s
  | .released => s

/-- The abort procedure on `TransportFailure`, steps (2) to (4) (60 R236); the shadow is not rolled back. -/
def abortProcedure (s : State) : State :=
  setFault (closeBrackets (releaseIfAsserted s).txnDepth (releaseIfAsserted s))

/-- The status is returned to the host (60 R240). -/
def respond (r : Response) (s : State) : State := { s with response := r }

/-- `raise E(info)`, the one operation every non-OK status goes through (00 R15, 60 R240): nothing is saved, masked or
switched; `TransportFailure` runs the abort procedure first (60 R236); there is no result. -/
def raise (status : Status) (info : Option Byte) (s : State) : State :=
  respond ⟨status, info, .nothing⟩ (if status = .transportFailure then abortProcedure s else s)

/-- `return v`: status `OK` and the result (00 R15). After any status the block is idle and accepts the next operation (60 R241). -/
def returnOk (result : Result) (s : State) : State := respond ⟨.ok, none, result⟩ s

/-- A sequence as a whole operation: its value is returned, or its failure raised. -/
def finish {α : Type} (result : α → Result) (f : Flow α) : State :=
  match f with
  | .done a s => returnOk (result a) s
  | .raised s => raise .transportFailure none s

/-- The result of an operation that "returns nothing" (30 R101). -/
def noResult : Unit → Result := fun _ => .nothing

/-- An operation other than `construct`: refused with `NotConstructed` while `constructed = 0` (70 R262, 60 R238), which comes before
every check of its own (60 R239). -/
def operation (s : State) (body : State → State) : Host.Outcome State Fault Refusal :=
  .next (if s.constructed then body s else raise .notConstructed none s)

/-! ### Shadow state (10 R20 to R28, 40 R124) -/

/-- `channels[activeChannel]` (10 R27). -/
def activeEntry (s : State) : ChannelConfig := s.channels[s.activeChannel.toNat]'s.activeChannel.isLt

/-- A write to a field of `channels[activeChannel]` (10 R27). -/
def setActiveEntry (c : ChannelConfig) (s : State) : State :=
  { s with channels := s.channels.set s.activeChannel.toNat c s.activeChannel.isLt }

/-- `rebuildConfig()` (40 R124): all 16 bits at once. -/
def rebuildConfig (s : State) : State :=
  { s with configRegister := encodeConfig s.activeChannel (activeEntry s) }

/-! ### Wire primitives (41 R141 to R145) -/

/-- `writeConfigRegister()` (41 R141). -/
def writeConfigRegister (s : State) : Flow Unit :=
  (txnBegin s).andThen fun _ s => (memWrite 0x10 s.configRegister (csAssert s)).andThen fun _ s =>
    .done () (txnEnd (csRelease s))

/-- `writeModeRegister()` (41 R142). -/
def writeModeRegister (s : State) : Flow Unit :=
  (txnBegin s).andThen fun _ s => (memWrite 0x08 s.modeRegister (csAssert s)).andThen fun _ s =>
    .done () (txnEnd (csRelease s))

/-- `startConversion()` (41 R143): no bracket of its own, and chip-select is left asserted. -/
def startConversion (s : State) : Flow Unit := memWrite 0x08 s.modeRegister (csAssert s)

/-- "if in single-conversion mode, de-assert chip-select afterward" (41 R144). -/
def releaseIfSingle (s : State) : State := if s.singleConversionMode then csRelease s else s

/-- `readConversionResult()` (41 R144): it asserts nothing and opens no bracket. -/
def readConversionResult (s : State) : Flow (BitVec 24) :=
  (memRead 0x58 s).andThen fun raw s => .done raw (releaseIfSingle s)

/-- `resetFrame()` (41 R145). -/
def resetFrame (s : State) : Flow Unit :=
  (txnBegin s).andThen fun _ s => (xferTimes 0xFF Config.resetByteCount (csAssert s)).andThen fun _ s =>
    .done () (txnEnd (csRelease s))

/-- The bytes a frame puts on the wire (30 R95 to R97), the payload read from the shadow; none for a host operation. -/
def frameBytes (i : Instr) (s : State) : List Byte :=
  match i with
  | .writeConfigRegister => [0x10, highByte s.configRegister, lowByte s.configRegister]
  | .writeModeRegister => [0x08, highByte s.modeRegister, lowByte s.modeRegister]
  | .startConversion => [0x08, highByte s.modeRegister, lowByte s.modeRegister]
  | .readConversionResult => [0x58, Config.dummyByte, Config.dummyByte, Config.dummyByte]
  | .resetFrame => List.replicate Config.resetByteCount 0xFF
  | .construct | .initializeDevice | .reset | .setActiveChannel _ | .setGain _ | .setBipolar _ | .setInputBuffer _
  | .setUpdateRate _ | .setConversionMode _ | .getReadingRaw _ | .getReadingVolts _ | .setPolarity _ => []

/-! ### Shared parts of the composite operations (30 R105) -/

/-- What follows every field write of a configuration setter: "immediately followed by a register rebuild and a write to the
device" (10 R35). -/
def rebuildAndWrite (s : State) : Flow Unit := writeConfigRegister (rebuildConfig s)

/-- The body of `setActiveChannel` for a valid index (42 R162). -/
def selectChannel (ch : Channel) (s : State) : Flow Unit := rebuildAndWrite { s with activeChannel := ch }

/-- The sequence of a reading after its channel check (43 R194). -/
def reading (ch : Channel) (s : State) : Flow (BitVec 24) :=
  (txnBegin s).andThen fun _ s => (selectChannel ch s).andThen fun _ s => (startConversion s).andThen fun _ s =>
    (readConversionResult (sleep (Config.settleDelayMs (rateField s.modeRegister)) s)).andThen fun raw s =>
      .done raw (txnEnd s)

/-- The loop of the device bootstrap: per channel one configuration write and then one mode write (43 R192, 90 C5). -/
def bootChannels : List Channel → State → Flow Unit
  | [], s => .done () s
  | i :: rest, s =>
    (selectChannel i s).andThen fun _ s => (writeModeRegister s).andThen fun _ s => bootChannels rest s

/-- "Every channel but the last two": `0 .. CHANNEL_COUNT-3` (43 R192). -/
def analogChannels : List Channel := (List.range (Config.channelCount - 2)).map (BitVec.ofNat 3)

end Sys2Proof.Machine
end

