-- ==== Sys2Proof/Machine/Configure.lean ====
section
/-! DEFINITION. The configuration operations of spec/42_config_operations.md: `construct` and the setters. -/
namespace Sys2Proof.Machine

/-- Every entry to "default gain=1, buffered=true, unipolar=false" (42 R160, 10 R27). -/
def defaultChannels : Vector ChannelConfig Config.channelCount := Vector.replicate Config.channelCount ChannelConfig.default

/-- The latching of the three side inputs (42 R160, 10 R26). -/
def latchSideInputs (s : State) : State :=
  { s with csLine := s.sideInputs.csLine, busFrequency := s.sideInputs.busFrequency, vRef := s.sideInputs.vRef }

/-- `construct` (42 R160), the one operation that runs whether or not the block is constructed. It emits nothing and does not write
`csLevel` (10 R31). -/
def execConstruct (s : State) : Host.Outcome State Fault Refusal :=
  .next (returnOk .nothing (markConstructed (rebuildConfig (setSingleFlag true
    { latchSideInputs s with
      channels := defaultChannels, activeChannel := 0, modeRegister := defaultMode, txnDepth := 0 }))))

/-- `setActiveChannel` (42 R162): an invalid index is silently ignored, status `OK` (60 R233). -/
def execSetActiveChannel (ch : Byte) (s : State) : Host.Outcome State Fault Refusal :=
  operation s fun s =>
    if channelValid ch then finish noResult (selectChannel (channelIndex ch) s) else returnOk .nothing s

/-- `setGain` (42 R164): the gain is stored as given (10 R28). -/
def execSetGain (g : Byte) (s : State) : Host.Outcome State Fault Refusal :=
  operation s fun s =>
    finish noResult (rebuildAndWrite (setActiveEntry { activeEntry s with gain := g } s))

/-- `setBipolar` (42 R166): bipolar whatever the operand is. -/
def execSetBipolar (_b : Bool) (s : State) : Host.Outcome State Fault Refusal :=
  operation s fun s =>
    finish noResult (rebuildAndWrite (setActiveEntry { activeEntry s with isUnipolar := false } s))

/-- `setPolarity` (42 R168): `true` = bipolar, `false` = unipolar. -/
def execSetPolarity (b : Bool) (s : State) : Host.Outcome State Fault Refusal :=
  operation s fun s =>
    finish noResult (rebuildAndWrite (setActiveEntry { activeEntry s with isUnipolar := unipolarBit b } s))

/-- `setInputBuffer` (42 R170): no state change, no event, status `OK`. -/
def execSetInputBuffer (_b : Bool) (s : State) : Host.Outcome State Fault Refusal :=
  operation s fun s => returnOk .nothing s

/-- `setUpdateRate` (42 R172). -/
def execSetUpdateRate (rateCode : Byte) (s : State) : Host.Outcome State Fault Refusal :=
  operation s fun s =>
    finish noResult (writeModeRegister { s with modeRegister := withRate s.modeRegister rateCode })

/-- `setConversionMode` (42 R174). -/
def execSetConversionMode (single : Bool) (s : State) : Host.Outcome State Fault Refusal :=
  operation s fun s =>
    finish noResult (writeModeRegister
      (setSingleFlag single { s with modeRegister := withConvMode s.modeRegister single }))

end Sys2Proof.Machine
end

