-- ==== Sys2Proof/Machine/Converter.lean ====
section
/-! DEFINITION. The calibration converter (spec/44_calibration_converter.md): raw code to volts, exactly and in the operation order of
the source, and the operation `getReadingVolts`. -/
namespace Sys2Proof.Machine

/-- `rawToVoltsExact` (44 R211), over the rationals; used for `gain >= 1`. -/
def rawToVoltsExact (raw : Nat) (vRef : Rat) (gain : Nat) (isUnipolar : Bool) : Rat :=
  if isUnipolar then ((raw : Rat) * vRef) / ((Config.fullScaleUnipolar : Rat) * (gain : Rat))
  else ((raw : Rat) / (Config.fullScaleBipolar : Rat) - 1) * vRef / (gain : Rat)

/-- `rawToVolts` (44 R212): the source's sequence of operations, each done by `Numerics`. -/
def rawToVolts {V : Type} (num : Numerics V) (raw : Nat) (vRef : V) (gain : Nat) (isUnipolar : Bool) : V :=
  if isUnipolar then
    num.div (num.mul (num.ofNat raw) vRef) (num.mul (num.ofNat Config.fullScaleUnipolar) (num.ofNat gain))
  else
    num.div (num.mul (num.sub (num.div (num.ofNat raw) (num.ofNat Config.fullScaleBipolar)) (num.ofNat 1)) vRef)
      (num.ofNat gain)

/-- Where the spec gives the voltage: `gain >= 1` (44 R211, R216) and a `vRef` in its domain (93 U8). -/
def voltsDefined (vRef : Volts) (gain : Byte) : Bool := gain != 0 && vRef.isPositive

/-- The voltage of a reading (44 R214): `rawToVolts` of the raw value with `vRef` and the entry's stored gain and polarity; where
the spec gives none, a free value (44 R216, 93 U2, U8; log 10). -/
def convert (entry : ChannelConfig) (raw : BitVec 32) (s : State) : Flow Volts :=
  if voltsDefined s.vRef entry.gain then
    .done (rawToVolts Config.numerics raw.toNat s.vRef entry.gain.toNat entry.isUnipolar) s
  else .done (Config.freeVolts s.drawCount) { s with drawCount := s.drawCount + 1 }

/-- `channels[ch]` for a checked index (44 R214). -/
def entryOf (ch : Channel) (s : State) : ChannelConfig := s.channels[ch.toNat]'ch.isLt

/-- `getReadingVolts` (44 R214). -/
def execGetReadingVolts (ch : Byte) (s : State) : Host.Outcome State Fault Refusal :=
  operation s fun s =>
    if channelValid ch then
      finish .volts ((reading (channelIndex ch) s).andThen fun raw s =>
        convert (entryOf (channelIndex ch) s) (widenRaw raw) s)
    else raise .invalidChannel (some ch) s

end Sys2Proof.Machine
end

