-- ==== Sys2Proof/Machine/Sequencer.lean ====
section
/-! DEFINITION. The sequencer operations of spec/43_sequencer_operations.md: the device reset, the bootstrap of every analog channel,
and the raw reading. -/
namespace Sys2Proof.Machine

/-- `reset` (43 R190): it resets the device, not the block. -/
def execReset (s : State) : Host.Outcome State Fault Refusal :=
  operation s fun s => finish noResult (resetFrame s)

/-- The sequence of 43 R192: the device reset, the wait outside any bracket, the loop, and the return to channel 0. -/
def bootSequence (s : State) : Flow Unit :=
  (resetFrame s).andThen fun _ s => (bootChannels analogChannels (sleep Config.initDelayMs s)).andThen fun _ s =>
    selectChannel 0 s

/-- The operation of 43 R192. -/
def execInitialize (s : State) : Host.Outcome State Fault Refusal :=
  operation s fun s => finish noResult (bootSequence s)

/-- `getReadingRaw` (43 R194): the channel check comes before anything else (60 R232). -/
def execGetReadingRaw (ch : Byte) (s : State) : Host.Outcome State Fault Refusal :=
  operation s fun s =>
    if channelValid ch then finish (fun raw => .raw (widenRaw raw)) (reading (channelIndex ch) s)
    else raise .invalidChannel (some ch) s

end Sys2Proof.Machine
end

