-- ==== Sys2Proof/Machine/Wire.lean ====
section
/-! DEFINITION. The five wire frames as instructions of their own: rows of spec/opcode_table.json, whose meaning is the primitive of
spec/41_wire_primitives.md run by itself (log 13). They end like every operation: with a status (60 R231), refused before
`construct` (10 R30). -/
namespace Sys2Proof.Machine

/-- `writeConfigRegister` (41 R141). -/
def execWriteConfigRegister (s : State) : Host.Outcome State Fault Refusal :=
  operation s fun s => finish noResult (writeConfigRegister s)

/-- `writeModeRegister` (41 R142). -/
def execWriteModeRegister (s : State) : Host.Outcome State Fault Refusal :=
  operation s fun s => finish noResult (writeModeRegister s)

/-- `startConversion` (41 R143). -/
def execStartConversion (s : State) : Host.Outcome State Fault Refusal :=
  operation s fun s => finish noResult (startConversion s)

/-- `readConversionResult` (41 R144): the result is the 24-bit code. -/
def execReadConversionResult (s : State) : Host.Outcome State Fault Refusal :=
  operation s fun s => finish .raw24 (readConversionResult s)

/-- `resetFrame` (41 R145). -/
def execResetFrame (s : State) : Host.Outcome State Fault Refusal :=
  operation s fun s => finish noResult (resetFrame s)

end Sys2Proof.Machine
end

