-- ==== Sys2Proof/Machine/Dispatch.lean ====
section
/-! DEFINITION. One arm per instruction, each one direct call of its meaning. -/
namespace Sys2Proof.Machine

/-- The meaning of an issued operation: the whole of it, to completion (00 R7, 92 D22). -/
def exec (i : Instr) (s : State) : Host.Outcome State Fault Refusal :=
  match i with
  | .construct => Sys2Proof.Machine.execConstruct s
  | .initializeDevice => Sys2Proof.Machine.execInitialize s
  | .reset => Sys2Proof.Machine.execReset s
  | .setActiveChannel ch => Sys2Proof.Machine.execSetActiveChannel ch s
  | .setGain g => Sys2Proof.Machine.execSetGain g s
  | .setBipolar b => Sys2Proof.Machine.execSetBipolar b s
  | .setInputBuffer b => Sys2Proof.Machine.execSetInputBuffer b s
  | .setUpdateRate rateCode => Sys2Proof.Machine.execSetUpdateRate rateCode s
  | .setConversionMode single => Sys2Proof.Machine.execSetConversionMode single s
  | .getReadingRaw ch => Sys2Proof.Machine.execGetReadingRaw ch s
  | .getReadingVolts ch => Sys2Proof.Machine.execGetReadingVolts ch s
  | .setPolarity b => Sys2Proof.Machine.execSetPolarity b s
  | .writeConfigRegister => Sys2Proof.Machine.execWriteConfigRegister s
  | .writeModeRegister => Sys2Proof.Machine.execWriteModeRegister s
  | .startConversion => Sys2Proof.Machine.execStartConversion s
  | .readConversionResult => Sys2Proof.Machine.execReadConversionResult s
  | .resetFrame => Sys2Proof.Machine.execResetFrame s

end Sys2Proof.Machine
end

