-- ==== Sys2Proof/Machine/Issue.lean ====
section
/-! DEFINITION. The host's port: taking the next issue (spec/20_memory.md R72, spec/30_encoding.md R98) and the answer to words that do
not decode (spec/30_encoding.md R102). -/
namespace Sys2Proof.Machine

/-- The issue `iss` is begun, `rest` being the ones after it: its side inputs are sampled (20 R72, 92 D30). -/
def beginIssue (iss : Issue) (rest : List Issue) (s : State) : State :=
  { s with pending := rest, sideInputs := iss.side }

/-- Words that do not decode: status `IllegalCommand`, no state change, no event (30 R102, 60 R237). It comes before every other
status (60 R239). -/
def illegalCommand (s : State) : State := raise .illegalCommand none s

/-- The issue of the words `words`, with the side inputs as they stand. -/
def issueNext (words : Words) (s : State) : State := { s with pending := ⟨words, s.sideInputs⟩ :: s.pending }

end Sys2Proof.Machine
end

