-- ==== Sys2Proof/Machine/Step.lean ====
section
/-! DEFINITION. One step: the next issue of the host is decoded and run to completion (spec/00_scope.md R7, spec/20_memory.md R72). -/
namespace Sys2Proof.Machine

/-- One step of the block. With nothing issued the block is idle and nothing changes (60 R241, R249; log 9). -/
def step (s : State) : Host.Outcome State Fault Refusal :=
  match s.pending with
  | [] => .next s
  | iss :: rest =>
    match decode iss.words with
    | .ok i => exec i (beginIssue iss rest s)
    | .error _ => .next (illegalCommand (beginIssue iss rest s))

/-- `s` with the instruction whose bits are `w` issued next, so that the next step runs it (log 9). A width that is no row's
leaves `s` as it is. -/
def State.withFetchWord (s : State) (nbits w : Nat) : State :=
  match tableWords nbits w with
  | some words => issueNext words s
  | none => s

end Sys2Proof.Machine
end

