-- ==== Sys2Proof/Machine/Device.lean ====
section
/-! DEFINITION. The optional device stub of spec/20_memory.md R66: part of the environment, not of the block. It is an observer of the
event list: its answers are draws in every exchange, so it constrains nothing, and what it holds is computed from the events. -/
namespace Sys2Proof.Machine

/-- Where in a frame the device is, counted in bytes alone (70 R271). -/
inductive DevicePos where
  | idle
  | modeHigh
  | modeLow (high : Byte)
  | configHigh
  | configLow (high : Byte)
  | dataByte0
  | dataByte1 (b0 : Byte)
  | dataByte2 (b0 b1 : Byte)
  deriving DecidableEq, Repr

/-- The stub: its three registers, "each holding *no value* until written" (20 R66), the chip-select level it sees, its place in a
frame, and how many whole bytes of ones it has just seen. -/
structure Device where
  devMode : Option Word
  devConfig : Option Word
  devData : Option (BitVec 24)
  csLevel : CsLevel
  pos : DevicePos
  onesBytes : Nat
  deriving DecidableEq, Repr

/-- The device before anything was sent to it, with the line released (10 R31). -/
def Device.unknown : Device := ⟨none, none, none, .released, .idle, 0⟩

/-- The bytes of ones that reset the device: 32 ones (20 R66, 90 C3), counted in whole bytes (log 16). -/
def deviceResetBytes : Nat := 4

/-- The device reset "returns all three to *no value*" (20 R66). -/
def deviceReset (d : Device) : Device :=
  { d with devMode := none, devConfig := none, devData := none, pos := .idle }

/-- What a command byte selects (20 R61); any other byte selects nothing (93 U21). -/
def deviceSelect (cmd : Byte) : DevicePos :=
  if cmd = 0x08 then .modeHigh else if cmd = 0x10 then .configHigh else if cmd = 0x58 then .dataByte0 else .idle

/-- One exchange inside the frame grammar of 20 R66: `out` is the controller's byte, `inp` the device's answer. -/
def deviceByte (out inp : Byte) (d : Device) : Device :=
  match d.pos with
  | .idle => { d with pos := deviceSelect out }
  | .modeHigh => { d with pos := .modeLow out }
  | .modeLow h => { d with devMode := some (h ++ out), pos := .idle }
  | .configHigh => { d with pos := .configLow out }
  | .configLow h => { d with devConfig := some (h ++ out), pos := .idle }
  | .dataByte0 => { d with pos := .dataByte1 inp }
  | .dataByte1 b0 => { d with pos := .dataByte2 b0 inp }
  | .dataByte2 b0 b1 => { d with devData := some (b0 ++ b1 ++ inp), pos := .idle }

/-- The count of bytes of ones after the byte `out`. -/
def onesAfter (out : Byte) (d : Device) : Nat := if out = 0xFF then d.onesBytes + 1 else 0

/-- One exchange: consumed only "while chip-select is asserted" (20 R66). -/
def deviceXfer (out inp : Byte) (d : Device) : Device :=
  match d.csLevel with
  | .released => d
  | .asserted =>
    if deviceResetBytes ≤ onesAfter out d then { deviceReset d with onesBytes := onesAfter out d }
    else { deviceByte out inp d with onesBytes := onesAfter out d }

/-- The register a cut frame addressed is left at *no value* (20 R66, 93 U12); `out` is the byte that failed. A byte of ones that failed
outside a frame is a cut reset frame, after which nothing is known (60 R236; log 16). -/
def deviceForget (out : Byte) (d : Device) : Device :=
  match d.pos with
  | .idle =>
    if out = 0x08 then { d with devMode := none }
    else if out = 0x10 then { d with devConfig := none }
    else if out = 0x58 then { d with devData := none }
    else deviceReset d
  | .modeHigh | .modeLow _ => { d with devMode := none }
  | .configHigh | .configLow _ => { d with devConfig := none }
  | .dataByte0 | .dataByte1 _ | .dataByte2 _ _ => { d with devData := none }

/-- A failed exchange cuts the frame short (20 R66). DESIGN CHOICE (log 16): the spec gives the addressed register's loss and nothing more of
a partial frame, "whose effect is unknown" (60 R236); the model puts the stub back at a frame boundary, so that the next byte is read as
a command byte, with its count of ones at 0. -/
def deviceXferFail (out : Byte) (d : Device) : Device :=
  match d.csLevel with
  | .released => d
  | .asserted => { deviceForget out d with pos := .idle, onesBytes := 0 }

/-- What one event does to the device. -/
def deviceSees (d : Device) (e : Event) : Device :=
  match e with
  | .csLow => { d with csLevel := .asserted }
  | .csHigh => { d with csLevel := .released, onesBytes := 0 }
  | .xfer out inp => deviceXfer out inp d
  | .xferFail out => deviceXferFail out d
  | .txnBegin | .txnEnd | .sleep _ | .txnFail => d

/-- The device after a list of events. -/
def deviceAfter (d : Device) (events : List Event) : Device := events.foldl deviceSees d

end Sys2Proof.Machine
end

