-- ==== Sys2Proof/Safety.lean ====
section
/-! DEFINITION. The terms claims are stated in: which answers of the transport let an operation run through, the event lists of
spec/41_wire_primitives.md in the notation of R140, the invariants of spec/10_state.md R36 to R39, and the agreement of device
and shadow of R35. -/
namespace Sys2Proof.Machine

/-- None of the next `n` answers of the transport is a failure (60 R235). -/
def TransportOk (n : Nat) (s : State) : Prop := ∀ k, k < n → answerFails k s = false

/-- The byte of the `k`-th answer from now. -/
def byteAt (k : Nat) (s : State) : Byte := (answerAt k s).byte

/-- The state with `n` answers used up, `es` appended to the event list, and the response `r`: what an operation leaves that touches no
other state. -/
def afterOperation (n : Nat) (es : List Event) (r : Response) (s : State) : State :=
  { s with
    answers := s.answers.drop n, drawCount := s.drawCount + (n - s.answers.length),
    events := s.events ++ es, response := r }

/-- The three exchanges of a write frame (30 R95), answered from the `k`-th answer on. -/
def writeXfers (cmd : Byte) (v : Word) (k : Nat) (s : State) : List Event :=
  [.xfer cmd (byteAt k s), .xfer (v.extractLsb' 8 8) (byteAt (k + 1) s), .xfer (v.extractLsb' 0 8) (byteAt (k + 2) s)]

/-- The event list of `writeConfigRegister` and `writeModeRegister` (41 R141, R142); the `TxnBegin` has the `k`-th answer. -/
def writeFrameEvents (cmd : Byte) (v : Word) (k : Nat) (s : State) : List Event :=
  [.txnBegin, .csLow] ++ writeXfers cmd v (k + 1) s ++ [.csHigh, .txnEnd]

/-- The event list of `resetFrame` (41 R145): "exactly 4 bytes of `0xFF` … bracketed by a single transaction". -/
def resetFrameEvents (k : Nat) (s : State) : List Event :=
  [.txnBegin, .csLow, .xfer 0xFF (byteAt (k + 1) s), .xfer 0xFF (byteAt (k + 2) s), .xfer 0xFF (byteAt (k + 3) s),
    .xfer 0xFF (byteAt (k + 4) s), .csHigh, .txnEnd]

/-- The four exchanges of the read frame (30 R96). -/
def readXfers (k : Nat) (s : State) : List Event :=
  [.xfer 0x58 (byteAt k s), .xfer Config.dummyByte (byteAt (k + 1) s), .xfer Config.dummyByte (byteAt (k + 2) s),
    .xfer Config.dummyByte (byteAt (k + 3) s)]

/-- The raw code of a read frame whose command byte has the `k`-th answer: byte 0 = MSB (20 R63). -/
def rawAt (k : Nat) (s : State) : BitVec 24 := byteAt (k + 1) s ++ byteAt (k + 2) s ++ byteAt (k + 3) s

/-- `CS(high)` after the read "only if `singleConversionMode`" (43 R194). -/
def singleRelease (s : State) : List Event := if s.singleConversionMode then [.csHigh] else []

/-- The chip-select level a read frame leaves (41 R144). -/
def levelAfterRead (s : State) : CsLevel := if s.singleConversionMode then .released else s.csLevel

/-- The event list of a reading of a channel whose configuration word is `cfg` (43 R194). -/
def readingEvents (cfg : Word) (s : State) : List Event :=
  [.txnBegin] ++ writeFrameEvents 0x10 cfg 1 s ++ [.csLow] ++ writeXfers 0x08 s.modeRegister 5 s ++
    [.sleep (Config.settleDelayMs (s.modeRegister.extractLsb' 0 8))] ++ readXfers 8 s ++ singleRelease s ++ [.txnEnd]

/-- The configuration word of channel `ch` with the entry it has (40 R122). -/
def configWordOf (ch : Channel) (s : State) : Word := encodeConfig ch (entryOf ch s)

/-- One pass of the bootstrap loop: a configuration write and a mode write (43 R192). -/
def bootPassEvents (i : Nat) (s : State) : List Event :=
  writeFrameEvents 0x10 (configWordOf (BitVec.ofNat 3 i) s) (5 + 8 * i) s ++
    writeFrameEvents 0x08 s.modeRegister (9 + 8 * i) s

/-- The event list of 43 R192, as program P1 lists it: reset frame, wait, channels 0 to 5, channel 0 again. -/
def bootEvents (s : State) : List Event :=
  resetFrameEvents 0 s ++ [.sleep Config.initDelayMs] ++ bootPassEvents 0 s ++ bootPassEvents 1 s ++ bootPassEvents 2 s ++
    bootPassEvents 3 s ++ bootPassEvents 4 s ++ bootPassEvents 5 s ++ writeFrameEvents 0x10 (configWordOf 0 s) 53 s

/-- The block-internal invariant of 10 R36 (a) to (d). -/
def ShadowInv (s : State) : Prop :=
  s.constructed = true →
    s.configRegister = encodeConfig s.activeChannel (activeEntry s) ∧
    (s.singleConversionMode = true ↔ s.modeRegister.extractLsb' 13 3 = 0b001) ∧
    (s.modeRegister.extractLsb' 13 3 = 0b001 ∨ s.modeRegister.extractLsb' 13 3 = 0b000) ∧
    s.modeRegister.extractLsb' 8 5 = 0 ∧ s.configRegister &&& 0xE8E8 = 0

/-- "When no operation is running, `txnDepth = 0`" (10 R38). -/
def BracketsClosed (s : State) : Prop := s.txnDepth = 0

/-- "`channels[i].isBuffered` is always 1" (10 R39). -/
def AllBuffered (s : State) : Prop := ∀ ch : Channel, (entryOf ch s).isBuffered = true

/-- The two readings (43 R194, 44 R214). -/
def isReading : Instr → Bool
  | .getReadingRaw _ | .getReadingVolts _ => true
  | .construct | .initializeDevice | .reset | .setActiveChannel _ | .setGain _ | .setBipolar _ | .setInputBuffer _
  | .setUpdateRate _ | .setConversionMode _ | .setPolarity _ | .writeConfigRegister | .writeModeRegister
  | .startConversion | .readConversionResult | .resetFrame => false

/-! ### Failing operations (60 R235, R236) -/

/-- The event a primitive appends when it fails instead (60 R235): only `Xfer` and `TxnBegin` can. -/
def failureOf : Event → Option Event
  | .xfer out _ => some (.xferFail out)
  | .txnBegin => some .txnFail
  | .txnEnd | .csLow | .csHigh | .sleep _ | .xferFail _ | .txnFail => none

/-- How many answers of the transport the events `es` took: one per `Xfer` and per `TxnBegin`. -/
def draws (es : List Event) : Nat := (es.filter fun e => (failureOf e).isSome).length

/-- The level of the line after one more event (00 R13). -/
def levelStep (l : CsLevel) : Event → CsLevel
  | .csLow => .asserted
  | .csHigh => .released
  | .txnBegin | .txnEnd | .xfer _ _ | .sleep _ | .xferFail _ | .txnFail => l

/-- The level of the line after the events `es`. -/
def levelAfter (l : CsLevel) (es : List Event) : CsLevel := es.foldl levelStep l

/-- The open brackets after one more event (00 R13). -/
def depthStep (d : Nat) : Event → Nat
  | .txnBegin => d + 1
  | .txnEnd => d - 1
  | .csLow | .csHigh | .xfer _ _ | .sleep _ | .xferFail _ | .txnFail => d

/-- The open brackets after the events `es`. -/
def depthAfter (d : Nat) (es : List Event) : Nat := es.foldl depthStep d

/-- What the abort procedure emits when the line is at `l` and `d` brackets are open (60 R236, steps 2 and 3). -/
def abortEvents (l : CsLevel) (d : Nat) : List Event :=
  (if l = .asserted then [.csHigh] else []) ++ List.replicate d .txnEnd

/-- `t` is what a failing operation leaves (60 R235, R236) that would have emitted `full`, has emitted `es`, and had the shadow of `b` when
it failed: the next event of `full` is a primitive whose answer is the first failure; `es`, that primitive's failure event and the
abort's events are emitted; chip-select released, no bracket open, `fault` set, status `TransportFailure` with no result; the shadow
as it was. -/
def Aborted (full es : List Event) (b t : State) : Prop :=
  ∃ p rest e, full = es ++ p :: rest ∧ failureOf p = some e ∧
    TransportOk (draws es) b ∧ answerFails (draws es) b = true ∧
    t = { b with
      answers := b.answers.drop (draws es + 1),
      drawCount := b.drawCount + (draws es + 1 - b.answers.length),
      events := b.events ++ (es ++ [e] ++ abortEvents (levelAfter b.csLevel es) (depthAfter b.txnDepth es)),
      csLevel := .released, txnDepth := 0, fault := true, response := ⟨.transportFailure, none, .nothing⟩ }

/-- Every exchange happens with chip-select asserted and the bus owned (20 R70, 41 R140; part 4 of 95), from a line at `l` and `d` open
brackets on. -/
def framed : CsLevel → Nat → List Event → Bool
  | _, _, [] => true
  | l, d, e :: es =>
    (match e with
      | .xfer _ _ | .xferFail _ => decide (l = .asserted ∧ 0 < d)
      | .txnBegin | .txnEnd | .csLow | .csHigh | .sleep _ | .txnFail => true) &&
      framed (levelStep l e) (depthStep d e) es

/-- The bytes the controller sent in the events `es`, in order. -/
def sentBytes (es : List Event) : List Byte :=
  es.filterMap fun e => match e with
    | .xfer out _ => some out
    | .txnBegin | .txnEnd | .csLow | .csHigh | .sleep _ | .xferFail _ | .txnFail => none

/-! ### What each instruction needs, does and leaves -/

/-- The shadow after channel `ch` is selected (42 R162). -/
def withChannel (ch : Channel) (s : State) : State :=
  { s with activeChannel := ch, configRegister := configWordOf ch s }

/-- The shadow after the active entry is set to `c` (42 R164 to R168). -/
def withEntry (c : ChannelConfig) (s : State) : State :=
  { s with
    channels := s.channels.set s.activeChannel.toNat c s.activeChannel.isLt,
    configRegister := encodeConfig s.activeChannel c }

/-- Whether the instruction goes on to the wire: not `construct` and `setInputBuffer`, and not an invalid channel (60 R231). -/
def reachesWire : Instr → Bool
  | .construct | .setInputBuffer _ => false
  | .setActiveChannel ch | .getReadingRaw ch | .getReadingVolts ch => decide (ch.toNat < 8)
  | .initializeDevice | .reset | .setGain _ | .setBipolar _ | .setUpdateRate _ | .setConversionMode _ | .setPolarity _
  | .writeConfigRegister | .writeModeRegister | .startConversion | .readConversionResult | .resetFrame => true

/-- How many answers of the transport an instruction needs to run through: one per `Xfer` and per `TxnBegin`. -/
def answersNeeded : Instr → Nat
  | .construct | .setInputBuffer _ => 0
  | .initializeDevice => 57
  | .reset | .resetFrame => 5
  | .setActiveChannel _ | .setGain _ | .setBipolar _ | .setUpdateRate _ | .setConversionMode _ | .setPolarity _
  | .writeConfigRegister | .writeModeRegister | .readConversionResult => 4
  | .getReadingRaw _ | .getReadingVolts _ => 12
  | .startConversion => 3

/-- The shadow an instruction that reaches the wire leaves when it runs through. -/
def shadowAfter (i : Instr) (s : State) : State :=
  match i with
  | .initializeDevice => withChannel 0 s
  | .setActiveChannel ch | .getReadingRaw ch | .getReadingVolts ch => withChannel (ch.extractLsb' 0 3) s
  | .setGain g => withEntry { activeEntry s with gain := g } s
  | .setBipolar _ => withEntry { activeEntry s with isUnipolar := false } s
  | .setPolarity b => withEntry { activeEntry s with isUnipolar := !b } s
  | .setUpdateRate r => { s with modeRegister := withRate s.modeRegister r }
  | .setConversionMode b => { s with modeRegister := withConvMode s.modeRegister b, singleConversionMode := b }
  | .construct | .reset | .setInputBuffer _ | .writeConfigRegister | .writeModeRegister | .startConversion
  | .readConversionResult | .resetFrame => s

/-- The events of an instruction that reaches the wire and runs through. -/
def wireEvents (i : Instr) (s : State) : List Event :=
  match i with
  | .construct | .setInputBuffer _ => []
  | .initializeDevice => bootEvents s
  | .reset | .resetFrame => resetFrameEvents 0 s
  | .setActiveChannel _ | .setGain _ | .setBipolar _ | .setPolarity _ | .writeConfigRegister =>
    writeFrameEvents 0x10 (shadowAfter i s).configRegister 0 s
  | .setUpdateRate _ | .setConversionMode _ | .writeModeRegister =>
    writeFrameEvents 0x08 (shadowAfter i s).modeRegister 0 s
  | .getReadingRaw ch | .getReadingVolts ch => readingEvents (configWordOf (ch.extractLsb' 0 3) s) s
  | .startConversion => .csLow :: writeXfers 0x08 s.modeRegister 0 s
  | .readConversionResult => readXfers 0 s ++ singleRelease s

/-- The shadow in the bootstrap when its answers numbered from 0 up to `n`, without `n`, have come (43 R192): the reset frame takes the
first five, each pass of the loop the next eight, all of them with its channel selected, and the return to channel 0 the last four. -/
def bootShadow (n : Nat) (s : State) : State :=
  if n < 5 then s else if n < 53 then withChannel (BitVec.ofNat 3 ((n - 5) / 8)) s else withChannel 0 s

/-- The shadow an instruction leaves that fails at its answer number `n`, counted from 0, "*not* rolled back" (60 R236): a reading changes
it after its first `TxnBegin`, the bootstrap channel by channel, and every other instruction before its first answer. -/
def shadowAtFailure (i : Instr) (n : Nat) (s : State) : State :=
  match i with
  | .initializeDevice => bootShadow n s
  | .getReadingRaw _ | .getReadingVolts _ => if n = 0 then s else shadowAfter i s
  | .construct | .reset | .setActiveChannel _ | .setGain _ | .setBipolar _ | .setInputBuffer _ | .setUpdateRate _
  | .setConversionMode _ | .setPolarity _ | .writeConfigRegister | .writeModeRegister | .startConversion
  | .readConversionResult | .resetFrame => shadowAfter i s

/-! ### What received bytes can change (41 R146) -/

/-- The event with the byte the transport returned left out. -/
def withoutReceived : Event → Event
  | .xfer out _ => .xfer out 0
  | .txnBegin => .txnBegin
  | .txnEnd => .txnEnd
  | .csLow => .csLow
  | .csHigh => .csHigh
  | .sleep ms => .sleep ms
  | .xferFail out => .xferFail out
  | .txnFail => .txnFail

/-- The answers, counted from 0, whose bytes the instruction keeps: "only the three bytes returned during the three dummy exchanges of
`readConversionResult`" (41 R146). -/
def keptAnswers : Instr → List Nat
  | .getReadingRaw _ | .getReadingVolts _ => [9, 10, 11]
  | .readConversionResult => [1, 2, 3]
  | .construct | .initializeDevice | .reset | .setActiveChannel _ | .setGain _ | .setBipolar _ | .setInputBuffer _
  | .setUpdateRate _ | .setConversionMode _ | .setPolarity _ | .writeConfigRegister | .writeModeRegister
  | .startConversion | .resetFrame => []

/-! ### The device (20 R66, 10 R35) -/

/-- The device sees the line as the block drives it, and is between frames. -/
def DeviceIdle (d : Device) (s : State) : Prop := d.csLevel = s.csLevel ∧ d.pos = .idle

/-- The device's configuration register "equals `configRegister`" (10 R35). -/
def ConfigInSync (d : Device) (s : State) : Prop := d.devConfig = some s.configRegister

/-- The device's "mode register equals `modeRegister`" (10 R35). -/
def ModeInSync (d : Device) (s : State) : Prop := d.devMode = some s.modeRegister

/-- The host operations that write the device's configuration register (10 R35, 70 R277); an invalid channel writes nothing. -/
def writesConfig : Instr → Bool
  | .initializeDevice | .setGain _ | .setBipolar _ | .setPolarity _ => true
  | .setActiveChannel ch | .getReadingRaw ch | .getReadingVolts ch => decide (ch.toNat < 8)
  | .construct | .reset | .setInputBuffer _ | .setUpdateRate _ | .setConversionMode _ | .writeConfigRegister
  | .writeModeRegister | .startConversion | .readConversionResult | .resetFrame => false

/-- The host operations that write the device's mode register: "only `setUpdateRate`, `setConversionMode`, `initialize` or a reading (via
`startConversion`)" (70 R277). -/
def writesMode : Instr → Bool
  | .initializeDevice | .setUpdateRate _ | .setConversionMode _ => true
  | .getReadingRaw ch | .getReadingVolts ch => decide (ch.toNat < 8)
  | .construct | .reset | .setActiveChannel _ | .setGain _ | .setBipolar _ | .setInputBuffer _ | .setPolarity _
  | .writeConfigRegister | .writeModeRegister | .startConversion | .readConversionResult | .resetFrame => false

end Sys2Proof.Machine
end

