-- ==== Sys2Proof/Certificates/Slice0/Obligations.lean ====
section
/-! DEFINITION. The statements for the provers: what spec/'s numbered rules say the instructions and the machine do. An instruction's
statement says, over all states of a constructed block, which one next state it answers when the transport answers (so its frame is
said with it); what it leaves when an `Xfer` or `TxnBegin` fails is said of all of them in `FailingInstructionsAbort`. -/

open Sys2Proof Sys2Proof.Machine

/-! ### Encodings -/

/-- Decoding the encoding of any instruction gives it back, with every operand: the host command words of 30 R98 to R100, a binding that is
the spec's own decision D10; and the frames of 30 R95 to R97, as the model issues them (its choices, logs 13 and 14): the payload bytes
are 0 and select nothing, and a frame carries the bracket it runs in. The bracket alone tells `startConversion` from
`writeModeRegister`, whose bytes are identical (30 R103): the bytes alone do not round-trip. -/
def Obligations.DecodeInvertsEncode : Prop := ∀ i : Instr, decode (encode i) = .ok i

/-- A command word decodes exactly when none of 30 R102's conditions for an illegal one holds. -/
def Obligations.CommandDecodesIffWellFormed : Prop :=
  ∀ w : Word, (∃ i, decode (.command w) = .ok i) ↔ commandWellFormed w = true

/-- A command word that decodes is the encoding of what it decodes to, and that is a host operation (30 R98, R99). -/
def Obligations.CommandWordHasOneMeaning : Prop :=
  ∀ (w : Word) (i : Instr), decode (.command w) = .ok i → encode i = .command w ∧ i.isHostOperation = true

/-- A frame decodes exactly when its first byte and its length are those of a frame of 30 R95 to R97 and R103, and its bracket is that
frame's. The model's choices: that an issued frame carries its bracket, which is no part of the frame bytes (log 14), and that its
payload may be any bytes (log 13). -/
def Obligations.FrameDecodesIffWellFormed : Prop :=
  ∀ (b : Bracket) (bytes : List Byte),
    (∃ i, decode (.frame b bytes) = .ok i ∧ i.isHostOperation = false) ↔ frameWellFormed b bytes = true

/-- The words the spec writes out decode to what it says (30 R104, V-table 6, S12); the frames with the brackets of V-table 3, which the
model has them carry (log 14). A check of the decoder on fixed words. -/
def Obligations.SpecWordsDecode : Prop :=
  decode (.command 0x4040) = .ok (.setGain 64) ∧ decode (.command 0xA002) = .ok (.getReadingVolts 2) ∧
  decode (.command 0x8000) = .ok (.setConversionMode false) ∧ decode (.command 0x8001) = .ok (.setConversionMode true) ∧
  decode (.command 0x0000) = .ok .construct ∧ decode (.command 0x1000) = .ok .initializeDevice ∧
  decode (.frame .own [0x10, 0x06, 0x12]) = .ok .writeConfigRegister ∧
  decode (.frame .caller [0x58, 0x00, 0x00, 0x00]) = .ok .readConversionResult

/-! ### Steps -/

/-- A step takes the oldest issue, samples its side inputs, and runs the instruction its words decode to (20 R72). -/
def Obligations.StepRunsDecodedIssue : Prop :=
  ∀ (s : State) (iss : Issue) (rest : List Issue) (i : Instr),
    s.pending = iss :: rest → decode iss.words = .ok i →
    step s = exec i { s with pending := rest, sideInputs := iss.side }

/-- The instruction whose table bits are placed as the next issue is the one the next step runs, in the state as it was (log 9). -/
def Obligations.FetchedWordRuns : Prop :=
  ∀ (s : State) (nbits w : Nat) (i : Instr), decodeTableWord nbits w = some i →
    step (s.withFetchWord nbits w) = exec i s

/-- With nothing issued a step changes nothing: the model's choice (log 9). -/
def Obligations.IdleStepChangesNothing : Prop := ∀ s : State, s.pending = [] → step s = .next s

/-- `IllegalCommand` (60 R237; the spec's own decision D32): the issue of words that are not well formed changes no state of the block and
emits no event, constructed or not (60 R239; decision D12); and no instruction, once decoded, answers it. The model's choices: that the
step takes the issue from the port and samples its side inputs (log 9), and that the bytes of an issued frame which is none of the
five are answered so too (log 21), where a frame's bracket counts as one of its words (log 14). -/
def Obligations.IllegalCommandChangesNothing : Prop :=
  (∀ (s : State) (iss : Issue) (rest : List Issue),
    s.pending = iss :: rest → iss.words.wellFormed = false →
    step s = .next { s with
      pending := rest, sideInputs := iss.side, response := ⟨.illegalCommand, none, .nothing⟩ }) ∧
  (∀ (i : Instr) (s t : State), exec i s = .next t → t.response.status ≠ .illegalCommand)

/-- Every instruction answers a next state in every state: no operation stops the block (10 R23, 60 R240, R241). It rests on the model's
reading that no error is a fault (log 18, DEDUCED), on its frames as instructions (log 13), and on the premise that the transport
answers and every `Sleep` returns (93 U17; log 19). -/
def Obligations.EveryInstructionAnswers : Prop := ∀ (i : Instr) (s : State), ∃ t, exec i s = .next t

/-! ### The register encoder -/

/-- The configuration word, field by field (30 R92). -/
def Obligations.ConfigWordFields : Prop :=
  ∀ (ch : Channel) (cfg : ChannelConfig),
    (encodeConfig ch cfg).extractLsb' 0 3 = ch ∧
    (encodeConfig ch cfg).getLsbD 4 = cfg.isBuffered ∧
    (encodeConfig ch cfg).extractLsb' 8 3 = gainBits cfg.gain ∧
    (encodeConfig ch cfg).getLsbD 12 = cfg.isUnipolar ∧
    encodeConfig ch cfg &&& 0xE8E8 = 0

/-- "exact lookup …; any unmatched value → 0" (30 R93, 40 R121): the code of 2^k is k, and every other gain's is 0. -/
def Obligations.GainCodeIsExactLookup : Prop :=
  (∀ k : Nat, k < 8 → (gainBits (BitVec.ofNat 8 (2 ^ k))).toNat = k) ∧
  (∀ g : Byte, (∀ k : Nat, k < 8 → g ≠ BitVec.ofNat 8 (2 ^ k)) → gainBits g = 0)

/-- `withRate` (40 R125): the low byte is replaced, all eight bits of it, and the high byte kept. -/
def Obligations.RateReplacesLowByte : Prop :=
  ∀ (mode : Word) (rate : Byte),
    (withRate mode rate).extractLsb' 0 8 = rate ∧ (withRate mode rate).extractLsb' 8 8 = mode.extractLsb' 8 8

/-- `withConvMode` (40 R126): bits `[15:13]` are assigned, "not OR-ed" (the spec's own decision D17), and bits `[12:0]` kept. -/
def Obligations.ConversionModeReplacesTopBits : Prop :=
  ∀ (mode : Word) (single : Bool),
    (withConvMode mode single).extractLsb' 13 3 = (if single then 0b001#3 else 0b000#3) ∧
    (withConvMode mode single).extractLsb' 0 13 = mode.extractLsb' 0 13

/-! ### Construction and reset -/

/-- `construct` (42 R160), in any state: the three side inputs latched, the defaults of the shadow, the flags; no event, and `csLevel`
as it was. Its word is `0x0000`. -/
def Obligations.ConstructResetsTheBlock : Prop :=
  decode (.command 0x0000) = .ok .construct ∧
  ∀ s : State, exec .construct s = .next { s with
    csLine := s.sideInputs.csLine, busFrequency := s.sideInputs.busFrequency, vRef := s.sideInputs.vRef,
    modeRegister := 0x2000 ||| Config.defaultRateCode.setWidth 16, configRegister := 0x0010, activeChannel := 0,
    singleConversionMode := true, channels := Vector.replicate 8 ⟨1, true, false⟩,
    constructed := true, fault := false, txnDepth := 0, response := ⟨.ok, none, .nothing⟩ }

/-- The reset state is what `construct` leaves, from any state with the line released, in all that is the block's (10 R34, 70 R260;
that the reset state is this one, with the line released, is log 2's). -/
def Obligations.ResetIsWhatConstructLeaves : Prop :=
  ∀ s : State, s.sideInputs = State.reset.sideInputs → s.csLevel = .released →
    exec .construct s = .next { State.reset with
      events := s.events, pending := s.pending, transportMayFail := s.transportMayFail, answers := s.answers,
      drawCount := s.drawCount }

/-- The values of the reset table (10 R34) that are numbers; `DEFAULT_RATE_CODE` and the side inputs are OPEN. A check of fixed
values. -/
def Obligations.ResetTableValues : Prop :=
  State.reset.modeRegister = 0x2000 ||| Config.defaultRateCode.setWidth 16 ∧
  State.reset.configRegister = 0x0010 ∧ State.reset.activeChannel = 0 ∧ State.reset.singleConversionMode = true ∧
  State.reset.channels = Vector.replicate 8 ⟨1, true, false⟩ ∧ State.reset.constructed = true ∧
  State.reset.fault = false ∧ State.reset.csLevel = .released ∧ State.reset.txnDepth = 0

/-- "Any other operation issued while `constructed = 0` is refused with `NotConstructed`" (70 R262, 60 R238): no state change, no
event. -/
def Obligations.NotConstructedRefusesOperations : Prop :=
  ∀ (i : Instr) (s : State), i.isHostOperation = true → i ≠ .construct → s.constructed = false →
    exec i s = .next { s with response := ⟨.notConstructed, none, .nothing⟩ }

/-- The same for a wire frame issued by itself: the model's choice (log 13). -/
def Obligations.NotConstructedRefusesFrames : Prop :=
  ∀ (i : Instr) (s : State), i.isHostOperation = false → s.constructed = false →
    exec i s = .next { s with response := ⟨.notConstructed, none, .nothing⟩ }

/-! ### Configuration operations -/

/-- `setActiveChannel` with a valid index (42 R162). -/
def Obligations.SetActiveChannelSelects : Prop :=
  ∀ (ch : Byte) (s : State), s.constructed = true → ch.toNat < 8 → TransportOk 4 s →
    let a : Channel := ch.extractLsb' 0 3
    let w : Word := encodeConfig a (s.channels[a.toNat]'a.isLt)
    exec (.setActiveChannel ch) s = .next
      (afterOperation 4 (writeFrameEvents 0x10 w 0 s) ⟨.ok, none, .nothing⟩
        { s with activeChannel := a, configRegister := w, csLevel := .released })

/-- `setActiveChannel` with an invalid index: silently ignored; the status `OK` is the spec's own decision D23 (60 R233). -/
def Obligations.SetActiveChannelIgnoresInvalid : Prop :=
  ∀ (ch : Byte) (s : State), s.constructed = true → 8 ≤ ch.toNat →
    exec (.setActiveChannel ch) s = .next { s with response := ⟨.ok, none, .nothing⟩ }

/-- `setGain` (42 R164): the active entry's gain, as given, legal or not; its words are `0x4000 | g`. -/
def Obligations.SetGainStoresAndWrites : Prop :=
  ∀ (g : Byte) (s : State), decode (.command (0x4000 ||| g.setWidth 16)) = .ok (.setGain g) ∧
    (s.constructed = true → TransportOk 4 s →
      let c : ChannelConfig := { activeEntry s with gain := g }
      let w : Word := encodeConfig s.activeChannel c
      exec (.setGain g) s = .next
        (afterOperation 4 (writeFrameEvents 0x10 w 0 s) ⟨.ok, none, .nothing⟩
          { s with
            channels := s.channels.set s.activeChannel.toNat c s.activeChannel.isLt, configRegister := w,
            csLevel := .released }))

/-- `setBipolar` (42 R166): bipolar "regardless of the argument value"; its words are `0x5000 | b`. -/
def Obligations.SetBipolarAlwaysBipolar : Prop :=
  ∀ (v : Bool) (s : State), decode (.command (0x5000 ||| (BitVec.ofBool v).setWidth 16)) = .ok (.setBipolar v) ∧
    (s.constructed = true → TransportOk 4 s →
      let c : ChannelConfig := { activeEntry s with isUnipolar := false }
      let w : Word := encodeConfig s.activeChannel c
      exec (.setBipolar v) s = .next
        (afterOperation 4 (writeFrameEvents 0x10 w 0 s) ⟨.ok, none, .nothing⟩
          { s with
            channels := s.channels.set s.activeChannel.toNat c s.activeChannel.isLt, configRegister := w,
            csLevel := .released }))

/-- `setPolarity` (42 R168, the spec's own operation, decision D18): `true` = bipolar, `false` = unipolar; its words are `0xB000 | b`. -/
def Obligations.SetPolaritySetsPolarity : Prop :=
  ∀ (v : Bool) (s : State), decode (.command (0xB000 ||| (BitVec.ofBool v).setWidth 16)) = .ok (.setPolarity v) ∧
    (s.constructed = true → TransportOk 4 s →
      let c : ChannelConfig := { activeEntry s with isUnipolar := !v }
      let w : Word := encodeConfig s.activeChannel c
      exec (.setPolarity v) s = .next
        (afterOperation 4 (writeFrameEvents 0x10 w 0 s) ⟨.ok, none, .nothing⟩
          { s with
            channels := s.channels.set s.activeChannel.toNat c s.activeChannel.isLt, configRegister := w,
            csLevel := .released }))

/-- `setInputBuffer` (42 R170): no state change, no event, status `OK`; its words are `0x6000 | b`. -/
def Obligations.SetInputBufferDoesNothing : Prop :=
  ∀ (v : Bool) (s : State), decode (.command (0x6000 ||| (BitVec.ofBool v).setWidth 16)) = .ok (.setInputBuffer v) ∧
    (s.constructed = true → exec (.setInputBuffer v) s = .next { s with response := ⟨.ok, none, .nothing⟩ })

/-- `setUpdateRate` (42 R172): the low byte of the mode word, all eight bits as given; its words are `0x7000 | rateCode`. -/
def Obligations.SetUpdateRateWritesThrough : Prop :=
  ∀ (r : Byte) (s : State), decode (.command (0x7000 ||| r.setWidth 16)) = .ok (.setUpdateRate r) ∧
    (s.constructed = true → TransportOk 4 s →
      let w : Word := (s.modeRegister &&& 0xFF00) ||| r.setWidth 16
      exec (.setUpdateRate r) s = .next
        (afterOperation 4 (writeFrameEvents 0x08 w 0 s) ⟨.ok, none, .nothing⟩
          { s with modeRegister := w, csLevel := .released }))

/-- `setConversionMode` (42 R174): bits `[15:13]` of the mode word (assigned: the spec's own decision D17), and the flag that mirrors
them; its words are `0x8000 | b`. -/
def Obligations.SetConversionModeSetsBitsAndFlag : Prop :=
  ∀ (v : Bool) (s : State), decode (.command (0x8000 ||| (BitVec.ofBool v).setWidth 16)) = .ok (.setConversionMode v) ∧
    (s.constructed = true → TransportOk 4 s →
      let w : Word := (s.modeRegister &&& 0x1FFF) ||| (if v then 0x2000 else 0x0000)
      exec (.setConversionMode v) s = .next
        (afterOperation 4 (writeFrameEvents 0x08 w 0 s) ⟨.ok, none, .nothing⟩
          { s with modeRegister := w, singleConversionMode := v, csLevel := .released }))

/-! ### Sequencer operations -/

/-- `reset` (43 R190): the reset frame; that the shadow is not changed is the spec's own decision D16. Its word is `0x2000`. -/
def Obligations.ResetSendsTheResetFrame : Prop :=
  decode (.command 0x2000) = .ok .reset ∧
  ∀ s : State, s.constructed = true → TransportOk 5 s →
    exec .reset s = .next
      (afterOperation 5 (resetFrameEvents 0 s) ⟨.ok, none, .nothing⟩ { s with csLevel := .released })

/-- The bootstrap (43 R192), as the spec's own decision D15 reads the source's sentence: reset frame, wait, per analog channel exactly one
configuration write and then one mode write (a, b), channel 0 again (c), the values those of the shadow as it stands (d); the wait is
at least twice the minimum settling delay. Its word is `0x1000`. -/
def Obligations.BootstrapConfiguresAnalogChannels : Prop :=
  decode (.command 0x1000) = .ok .initializeDevice ∧ 2 * Config.minSettleMs ≤ Config.initDelayMs ∧
  ∀ s : State, s.constructed = true → TransportOk 57 s →
    exec .initializeDevice s = .next
      (afterOperation 57 (bootEvents s) ⟨.ok, none, .nothing⟩
        { s with activeChannel := 0, configRegister := encodeConfig 0 (entryOf 0 s), csLevel := .released })

/-- `getReadingRaw` with a valid channel (43 R194): the sequence, the channel switch, and the 24-bit code zero-extended to 32 bits; chip-select
stays asserted in continuous mode. -/
def Obligations.ReadingRawRunsTheSequence : Prop :=
  ∀ (ch : Byte) (s : State), s.constructed = true → ch.toNat < 8 → TransportOk 12 s →
    let a : Channel := ch.extractLsb' 0 3
    let w : Word := encodeConfig a (s.channels[a.toNat]'a.isLt)
    exec (.getReadingRaw ch) s = .next
      (afterOperation 12 (readingEvents w s) ⟨.ok, none, .raw ((rawAt 8 s).setWidth 32)⟩
        { s with
          activeChannel := a, configRegister := w,
          csLevel := if s.singleConversionMode then .released else .asserted })

/-- `InvalidChannel` (60 R232; the spec's own decision D13): the operand of a reading is checked first; no state change, no event, the
channel as `info`. -/
def Obligations.ReadingsCheckTheirChannel : Prop :=
  ∀ (ch : Byte) (s : State), s.constructed = true → 8 ≤ ch.toNat →
    exec (.getReadingRaw ch) s = .next { s with response := ⟨.invalidChannel, some ch, .nothing⟩ } ∧
    exec (.getReadingVolts ch) s = .next { s with response := ⟨.invalidChannel, some ch, .nothing⟩ }

/-! ### The calibration converter -/

/-- `getReadingVolts` with a valid channel, a stored gain of at least 1 and a positive `vRef` (44 R214, R212): the events and the shadow of
`getReadingRaw`, and the voltage by the source's operations in their order, in the OPEN arithmetic (the spec's own decision D9), on the
raw code, the gain and the constants exactly ("`ofNat` exact for raw < 2^32 in every admissible Numerics"). That a number is held as
`.finite` is the model's number type (log 4). -/
def Obligations.ReadingVoltsAppliesTheTransferFunction : Prop :=
  ∀ (ch : Byte) (q : Rat) (s : State), s.constructed = true → ch.toNat < 8 → s.vRef = .finite q → 0 < q → TransportOk 12 s →
    let a : Channel := ch.extractLsb' 0 3
    let c : ChannelConfig := s.channels[a.toNat]'a.isLt
    let w : Word := encodeConfig a c
    let N := Config.numerics
    let r : Volts := .finite ((rawAt 8 s).toNat : Rat)
    let g : Volts := .finite (c.gain.toNat : Rat)
    let v : Volts :=
      if c.isUnipolar then N.div (N.mul r (.finite q)) (N.mul (.finite 16777216) g)
      else N.div (N.mul (N.sub (N.div r (.finite 8388608)) (.finite 1)) (.finite q)) g
    c.gain ≠ 0 →
    exec (.getReadingVolts ch) s = .next
      (afterOperation 12 (readingEvents w s) ⟨.ok, none, .volts v⟩
        { s with
          activeChannel := a, configRegister := w,
          csLevel := if s.singleConversionMode then .released else .asserted })

/-- Gain 0 (44 R216; the spec's own decision D29), and a `vRef` outside its domain (93 U8; log 10): status `OK`, the bus sequence as ever, and
the voltage a free value, whose index is the count of free values taken. -/
def Obligations.UndefinedVoltsAreFree : Prop :=
  ∀ (ch : Byte) (s : State), s.constructed = true → ch.toNat < 8 → TransportOk 12 s →
    let a : Channel := ch.extractLsb' 0 3
    let w : Word := encodeConfig a (s.channels[a.toNat]'a.isLt)
    let n : Nat := s.drawCount + (12 - s.answers.length)
    ((s.channels[a.toNat]'a.isLt).gain = 0 ∨ s.vRef.isPositive = false) →
    exec (.getReadingVolts ch) s = .next
      { afterOperation 12 (readingEvents w s) ⟨.ok, none, .volts (Config.freeVolts n)⟩ s with
        activeChannel := a, configRegister := w,
        csLevel := if s.singleConversionMode then .released else .asserted, drawCount := n + 1 }

/-- With `Numerics` = exact rationals, `rawToVolts` is the formula of 44 R211, with its ranges for a 24-bit code and its code steps (the
spec's own inferences from the formula). -/
def Obligations.ExactConversionFormulaAndRanges : Prop :=
  (∀ (raw gain : Nat) (vRef : Rat),
    rawToVolts Numerics.exact raw vRef gain true = ((raw : Rat) * vRef) / (16777216 * (gain : Rat)) ∧
    rawToVolts Numerics.exact raw vRef gain false = ((raw : Rat) / 8388608 - 1) * vRef / (gain : Rat)) ∧
  (∀ (raw gain : Nat) (vRef : Rat), raw ≤ 16777215 → 1 ≤ gain → 0 < vRef →
    0 ≤ rawToVolts Numerics.exact raw vRef gain true ∧
    rawToVolts Numerics.exact raw vRef gain true ≤ vRef / (gain : Rat) * (1 - 1 / 16777216) ∧
    -vRef / (gain : Rat) ≤ rawToVolts Numerics.exact raw vRef gain false ∧
    rawToVolts Numerics.exact raw vRef gain false ≤ vRef / (gain : Rat) * (1 - 1 / 8388608)) ∧
  (∀ (raw gain : Nat) (vRef : Rat), 1 ≤ gain →
    rawToVolts Numerics.exact (raw + 1) vRef gain true - rawToVolts Numerics.exact raw vRef gain true =
      vRef / (16777216 * (gain : Rat)) ∧
    rawToVolts Numerics.exact (raw + 1) vRef gain false - rawToVolts Numerics.exact raw vRef gain false =
      vRef / (8388608 * (gain : Rat)))

/-- The properties of 44 R213, under exact rational arithmetic: (a) to (d), and the three the spec itself infers. -/
def Obligations.ConverterProperties : Prop :=
  rawToVolts Numerics.exact 16777216 (5 / 2) 1 true = 5 / 2 ∧
  rawToVolts Numerics.exact 16777215 (5 / 2) 1 false = 41943035 / 16777216 ∧
  (∀ (gain : Nat) (vRef : Rat), 1 ≤ gain →
    rawToVolts Numerics.exact 8388608 vRef gain false = 0 ∧
    rawToVolts Numerics.exact 0 vRef gain false = -vRef / (gain : Rat) ∧
    rawToVolts Numerics.exact 0 vRef gain true = 0) ∧
  (∀ (raw raw' gain : Nat) (vRef : Rat) (u : Bool), 1 ≤ gain → 0 < vRef → raw < raw' →
    rawToVolts Numerics.exact raw vRef gain u < rawToVolts Numerics.exact raw' vRef gain u) ∧
  (∀ (raw gain : Nat) (vRef : Rat), 1 ≤ gain →
    rawToVolts Numerics.exact raw vRef gain false =
      2 * rawToVolts Numerics.exact raw vRef gain true - vRef / (gain : Rat))

/-! ### Wire frames -/

/-- `writeConfigRegister` (41 R141), issued by itself (log 13). -/
def Obligations.WriteConfigFrame : Prop :=
  ∀ s : State, s.constructed = true → TransportOk 4 s →
    exec .writeConfigRegister s = .next
      (afterOperation 4 (writeFrameEvents 0x10 s.configRegister 0 s) ⟨.ok, none, .nothing⟩ { s with csLevel := .released })

/-- `writeModeRegister` (41 R142), issued by itself (log 13). -/
def Obligations.WriteModeFrame : Prop :=
  ∀ s : State, s.constructed = true → TransportOk 4 s →
    exec .writeModeRegister s = .next
      (afterOperation 4 (writeFrameEvents 0x08 s.modeRegister 0 s) ⟨.ok, none, .nothing⟩ { s with csLevel := .released })

/-- `startConversion` (41 R143), issued by itself (log 13): no bracket of its own, chip-select left asserted. -/
def Obligations.StartConversionHoldsChipSelect : Prop :=
  ∀ s : State, s.constructed = true → TransportOk 3 s →
    exec .startConversion s = .next
      (afterOperation 3 (.csLow :: writeXfers 0x08 s.modeRegister 0 s) ⟨.ok, none, .nothing⟩ { s with csLevel := .asserted })

/-- `readConversionResult` (41 R144), issued by itself (log 13): the 24-bit big-endian code; `CS(high)` in single mode only, else the line
as it was. -/
def Obligations.ReadConversionResultIsBigEndian : Prop :=
  ∀ s : State, s.constructed = true → TransportOk 4 s →
    exec .readConversionResult s = .next
      (afterOperation 4 (readXfers 0 s ++ if s.singleConversionMode then [.csHigh] else [])
        ⟨.ok, none, .raw24 (byteAt 1 s ++ byteAt 2 s ++ byteAt 3 s)⟩
        { s with csLevel := if s.singleConversionMode then .released else s.csLevel })

/-- `resetFrame` (41 R145), issued by itself (log 13). -/
def Obligations.ResetFrameSendsFourBytesOfOnes : Prop :=
  ∀ s : State, s.constructed = true → TransportOk 5 s →
    exec .resetFrame s = .next
      (afterOperation 5 (resetFrameEvents 0 s) ⟨.ok, none, .nothing⟩ { s with csLevel := .released })

/-- A frame that runs through has sent exactly its bytes, payload from the shadow, first byte first (30 R95 to R97); issued by itself
(log 13). -/
def Obligations.FramesSendTheirBytes : Prop :=
  ∀ (i : Instr) (s t : State), i.isHostOperation = false → s.constructed = true → exec i s = .next t →
    t.response.status = .ok → ∃ es, t.events = s.events ++ es ∧ sentBytes es = frameBytes i s

/-! ### Errors -/

/-- The abort (60 R235, R236; the spec's own decision D14), of every instruction that reaches the wire: if one of the answers it needs is a
failure, it answers `TransportFailure`, having emitted its events up to the first failing primitive, that primitive's failure event
and the abort's; the shadow is the one it had when that primitive failed, not rolled back, which the number of answers used before it
says: a reading has selected its channel after its first `TxnBegin`, the bootstrap has selected the channel of its pass. -/
def Obligations.FailingInstructionsAbort : Prop :=
  ∀ (i : Instr) (s : State), s.constructed = true → reachesWire i = true → ¬ TransportOk (answersNeeded i) s →
    ∃ es t, Aborted (wireEvents i s) es (shadowAtFailure i (draws es) s) t ∧ exec i s = .next t

/-- After `TransportFailure` (60 R236): chip-select released, no bracket open, `fault` set, no result. -/
def Obligations.TransportFailureAborts : Prop :=
  ∀ (i : Instr) (s t : State), exec i s = .next t → t.response.status = .transportFailure →
    t.fault = true ∧ t.csLevel = .released ∧ t.txnDepth = 0 ∧ t.response.info = none ∧ t.response.result = .nothing

/-- "When `transportMayFail` is false, the block behaves as the source's design, in which failure does not exist" (60 R235). -/
def Obligations.NoFailureUnlessAllowed : Prop :=
  ∀ (i : Instr) (s t : State), s.transportMayFail = false → exec i s = .next t →
    t.response.status ≠ .transportFailure ∧ (t.fault = true → s.fault = true)

/-- `fault` is set by an operation that ends with `TransportFailure` only, and cleared by `construct` only (10 R30). -/
def Obligations.FaultIsSticky : Prop :=
  ∀ (i : Instr) (s t : State), exec i s = .next t →
    (s.fault = true → i ≠ .construct → t.fault = true) ∧
    (t.fault = true → s.fault = true ∨ t.response.status = .transportFailure) ∧
    (i = .construct → t.fault = false)

/-! ### Invariants and whole-machine rules -/

/-- The shadow invariant (10 R36, which the spec infers) is kept by every step, whatever the host issues and the transport answers. -/
def Obligations.StepKeepsShadowInvariant : Prop :=
  ∀ s t : State, ShadowInv s → step s = .next t → ShadowInv t

/-- The reset state meets the shadow invariant. -/
def Obligations.ResetMeetsShadowInvariant : Prop := ShadowInv State.reset

/-- "When no operation is running, `txnDepth = 0`" (10 R38, which the spec infers): every step keeps it, failing ones too. -/
def Obligations.StepKeepsBracketsClosed : Prop :=
  ∀ s t : State, BracketsClosed s → step s = .next t → BracketsClosed t

/-- "`isBuffered` cannot become 0 by any operation" (10 R39, which the spec infers). -/
def Obligations.StepKeepsBuffered : Prop := ∀ s t : State, AllBuffered s → step s = .next t → AllBuffered t

/-- The reset state has every entry buffered and no bracket open. -/
def Obligations.ResetIsBufferedAndClosed : Prop := AllBuffered State.reset ∧ BracketsClosed State.reset

/-- Without `setPolarity` no entry becomes unipolar (10 R39, which the spec infers). -/
def Obligations.OnlySetPolarityMakesUnipolar : Prop :=
  ∀ (i : Instr) (s t : State), (∀ v, i ≠ .setPolarity v) → exec i s = .next t →
    (∀ ch : Channel, (entryOf ch s).isUnipolar = false) → ∀ ch : Channel, (entryOf ch t).isUnipolar = false

/-- Chip-select is left asserted by a host operation only if it was a continuous-mode reading that completed, or the operation emitted
nothing and found it so (10 R38, which the spec infers; 70 R271). -/
def Obligations.ChipSelectReleasedBetweenOperations : Prop :=
  ∀ (i : Instr) (s t : State), i.isHostOperation = true → exec i s = .next t → t.csLevel = .asserted →
    (t.events = s.events ∧ s.csLevel = .asserted) ∨
    (isReading i = true ∧ s.singleConversionMode = false ∧ t.response.status = .ok)

/-- `csLine`, `busFrequency`, `vRef` "never change until the next `construct`" (10 R26). -/
def Obligations.SideInputsLatchedUntilConstruct : Prop :=
  ∀ (i : Instr) (s t : State), i ≠ .construct → exec i s = .next t →
    t.csLine = s.csLine ∧ t.busFrequency = s.busFrequency ∧ t.vRef = s.vRef

/-- Who writes what (10 R40): an operation outside a register's `W` column leaves it as it was. -/
def Obligations.OnlyTheirWritersChangeRegisters : Prop :=
  ∀ (i : Instr) (s t : State), exec i s = .next t →
    (t.modeRegister ≠ s.modeRegister →
      i = .construct ∨ (∃ r, i = .setUpdateRate r) ∨ ∃ v, i = .setConversionMode v) ∧
    (t.singleConversionMode ≠ s.singleConversionMode → i = .construct ∨ ∃ v, i = .setConversionMode v) ∧
    (t.activeChannel ≠ s.activeChannel →
      i = .construct ∨ i = .initializeDevice ∨ (∃ ch, i = .setActiveChannel ch) ∨ isReading i = true) ∧
    (t.channels ≠ s.channels →
      i = .construct ∨ (∃ g, i = .setGain g) ∨ (∃ v, i = .setBipolar v) ∨ ∃ v, i = .setPolarity v) ∧
    (t.configRegister ≠ s.configRegister →
      i = .construct ∨ i = .initializeDevice ∨ (∃ ch, i = .setActiveChannel ch) ∨ isReading i = true ∨
        (∃ g, i = .setGain g) ∨ (∃ v, i = .setBipolar v) ∨ ∃ v, i = .setPolarity v) ∧
    (t.constructed ≠ s.constructed → i = .construct) ∧
    (t.csLevel ≠ s.csLevel → i ≠ .construct ∧ ∀ v, i ≠ .setInputBuffer v)

/-- Only the active entry, the one `channels[activeChannel]`, is changed by a setter (10 R27, 42 R164). -/
def Obligations.SettersTouchTheActiveEntryOnly : Prop :=
  ∀ (i : Instr) (s t : State), i ≠ .construct → exec i s = .next t →
    ∀ ch : Channel, ch ≠ s.activeChannel → entryOf ch t = entryOf ch s

/-- Events are only appended: none is dropped, reordered or changed by a later operation (20 R69, R74). -/
def Obligations.EventsAreOnlyAppended : Prop :=
  ∀ (i : Instr) (s t : State), exec i s = .next t → ∃ es, t.events = s.events ++ es

/-- The received bytes are discarded, but for the three data bytes of a reading (41 R146, which the spec infers): two runs whose transports
fail alike and answer alike in the bytes the instruction keeps use up the same number of answers, emit the same events but for the
received bytes recorded in them, and end in the same state and with the same response. -/
def Obligations.ReceivedBytesAreDiscarded : Prop :=
  ∀ (i : Instr) (s t u : State) (as : List Answer),
    as.map Answer.fails = s.answers.map Answer.fails →
    (∀ k ∈ keptAnswers i, byteAt k { s with answers := as } = byteAt k s) →
    exec i s = .next t → exec i { s with answers := as } = .next u →
    ∃ n es fs, t.answers = s.answers.drop n ∧ t.events = s.events ++ es ∧
      u = { t with answers := as.drop n, events := s.events ++ fs } ∧ fs.map withoutReceived = es.map withoutReceived

/-- Every exchange of a host operation happens inside a bracket with chip-select asserted (20 R70), failing ones too. -/
def Obligations.ExchangesAreFramed : Prop :=
  ∀ (i : Instr) (s t : State), i.isHostOperation = true → exec i s = .next t →
    ∃ es, t.events = s.events ++ es ∧ framed s.csLevel s.txnDepth es = true

/-- Shadow and device never observably diverge (10 R35, half two; 70 R277), while `fault` is 0, the premise of every claim about the device
(60 R236; the spec's own decision D14): a host operation other than `construct` and `reset` that ends `OK` leaves the stub device's
configuration register equal to `configRegister` if it wrote it or the two were equal, and its mode register equal to `modeRegister`
likewise. The stub's corners are the model's (log 16). -/
def Obligations.DeviceFollowsShadow : Prop :=
  ∀ (i : Instr) (s t : State) (d : Device), i.isHostOperation = true → i ≠ .construct → i ≠ .reset →
    s.constructed = true → s.fault = false → DeviceIdle d s → exec i s = .next t → t.response.status = .ok →
    ∃ es, t.events = s.events ++ es ∧ DeviceIdle (deviceAfter d es) t ∧
      (writesConfig i = true ∨ ConfigInSync d s → ConfigInSync (deviceAfter d es) t) ∧
      (writesMode i = true ∨ ModeInSync d s → ModeInSync (deviceAfter d es) t)

/-- `reset` alone leaves the stub device with no value in any register, and the shadow as it was (70 R277, 20 R66), while `fault` is 0
(60 R236; the spec's own decision D14). The stub's corners are the model's (log 16). -/
def Obligations.DeviceResetForgetsRegisters : Prop :=
  ∀ (s t : State) (d : Device), s.constructed = true → s.fault = false → DeviceIdle d s → exec .reset s = .next t →
    t.response.status = .ok →
    t.modeRegister = s.modeRegister ∧ t.configRegister = s.configRegister ∧
    ∃ es, t.events = s.events ++ es ∧ DeviceIdle (deviceAfter d es) t ∧
      (deviceAfter d es).devMode = none ∧ (deviceAfter d es).devConfig = none ∧ (deviceAfter d es).devData = none
end

