-- ==== Sys2Proof/Laws/State.lean ====
section
/-! SUPPORT. What each update of the state does to each field, one lemma per field per update, so that no later proof unfolds a
record update. -/
namespace Sys2Proof.Laws
open Sys2Proof.Machine

/-! ### `emit` -/

@[simp] theorem emit_csLine (e : Event) (s : State) : (emit e s).csLine = s.csLine := rfl
@[simp] theorem emit_busFrequency (e : Event) (s : State) : (emit e s).busFrequency = s.busFrequency := rfl
@[simp] theorem emit_vRef (e : Event) (s : State) : (emit e s).vRef = s.vRef := rfl
@[simp] theorem emit_modeRegister (e : Event) (s : State) : (emit e s).modeRegister = s.modeRegister := rfl
@[simp] theorem emit_configRegister (e : Event) (s : State) : (emit e s).configRegister = s.configRegister := rfl
@[simp] theorem emit_activeChannel (e : Event) (s : State) : (emit e s).activeChannel = s.activeChannel := rfl
@[simp] theorem emit_singleConversionMode (e : Event) (s : State) : (emit e s).singleConversionMode = s.singleConversionMode := rfl
@[simp] theorem emit_channels (e : Event) (s : State) : (emit e s).channels = s.channels := rfl
@[simp] theorem emit_constructed (e : Event) (s : State) : (emit e s).constructed = s.constructed := rfl
@[simp] theorem emit_fault (e : Event) (s : State) : (emit e s).fault = s.fault := rfl
@[simp] theorem emit_csLevel (e : Event) (s : State) : (emit e s).csLevel = s.csLevel := rfl
@[simp] theorem emit_txnDepth (e : Event) (s : State) : (emit e s).txnDepth = s.txnDepth := rfl
@[simp] theorem emit_events (e : Event) (s : State) : (emit e s).events = s.events ++ [e] := rfl
@[simp] theorem emit_response (e : Event) (s : State) : (emit e s).response = s.response := rfl
@[simp] theorem emit_pending (e : Event) (s : State) : (emit e s).pending = s.pending := rfl
@[simp] theorem emit_sideInputs (e : Event) (s : State) : (emit e s).sideInputs = s.sideInputs := rfl
@[simp] theorem emit_transportMayFail (e : Event) (s : State) : (emit e s).transportMayFail = s.transportMayFail := rfl
@[simp] theorem emit_answers (e : Event) (s : State) : (emit e s).answers = s.answers := rfl
@[simp] theorem emit_drawCount (e : Event) (s : State) : (emit e s).drawCount = s.drawCount := rfl

/-! ### `dropAnswers` -/

@[simp] theorem dropAnswers_csLine (n : Nat) (s : State) : (dropAnswers n s).csLine = s.csLine := rfl
@[simp] theorem dropAnswers_busFrequency (n : Nat) (s : State) : (dropAnswers n s).busFrequency = s.busFrequency := rfl
@[simp] theorem dropAnswers_vRef (n : Nat) (s : State) : (dropAnswers n s).vRef = s.vRef := rfl
@[simp] theorem dropAnswers_modeRegister (n : Nat) (s : State) : (dropAnswers n s).modeRegister = s.modeRegister := rfl
@[simp] theorem dropAnswers_configRegister (n : Nat) (s : State) : (dropAnswers n s).configRegister = s.configRegister := rfl
@[simp] theorem dropAnswers_activeChannel (n : Nat) (s : State) : (dropAnswers n s).activeChannel = s.activeChannel := rfl
@[simp] theorem dropAnswers_singleConversionMode (n : Nat) (s : State) : (dropAnswers n s).singleConversionMode = s.singleConversionMode := rfl
@[simp] theorem dropAnswers_channels (n : Nat) (s : State) : (dropAnswers n s).channels = s.channels := rfl
@[simp] theorem dropAnswers_constructed (n : Nat) (s : State) : (dropAnswers n s).constructed = s.constructed := rfl
@[simp] theorem dropAnswers_fault (n : Nat) (s : State) : (dropAnswers n s).fault = s.fault := rfl
@[simp] theorem dropAnswers_csLevel (n : Nat) (s : State) : (dropAnswers n s).csLevel = s.csLevel := rfl
@[simp] theorem dropAnswers_txnDepth (n : Nat) (s : State) : (dropAnswers n s).txnDepth = s.txnDepth := rfl
@[simp] theorem dropAnswers_events (n : Nat) (s : State) : (dropAnswers n s).events = s.events := rfl
@[simp] theorem dropAnswers_response (n : Nat) (s : State) : (dropAnswers n s).response = s.response := rfl
@[simp] theorem dropAnswers_pending (n : Nat) (s : State) : (dropAnswers n s).pending = s.pending := rfl
@[simp] theorem dropAnswers_sideInputs (n : Nat) (s : State) : (dropAnswers n s).sideInputs = s.sideInputs := rfl
@[simp] theorem dropAnswers_transportMayFail (n : Nat) (s : State) : (dropAnswers n s).transportMayFail = s.transportMayFail := rfl
@[simp] theorem dropAnswers_answers (n : Nat) (s : State) : (dropAnswers n s).answers = s.answers.drop n := rfl
@[simp] theorem dropAnswers_drawCount (n : Nat) (s : State) : (dropAnswers n s).drawCount = s.drawCount + (n - s.answers.length) := rfl

/-! ### `txnEnd` -/

@[simp] theorem txnEnd_csLine (s : State) : (txnEnd s).csLine = s.csLine := rfl
@[simp] theorem txnEnd_busFrequency (s : State) : (txnEnd s).busFrequency = s.busFrequency := rfl
@[simp] theorem txnEnd_vRef (s : State) : (txnEnd s).vRef = s.vRef := rfl
@[simp] theorem txnEnd_modeRegister (s : State) : (txnEnd s).modeRegister = s.modeRegister := rfl
@[simp] theorem txnEnd_configRegister (s : State) : (txnEnd s).configRegister = s.configRegister := rfl
@[simp] theorem txnEnd_activeChannel (s : State) : (txnEnd s).activeChannel = s.activeChannel := rfl
@[simp] theorem txnEnd_singleConversionMode (s : State) : (txnEnd s).singleConversionMode = s.singleConversionMode := rfl
@[simp] theorem txnEnd_channels (s : State) : (txnEnd s).channels = s.channels := rfl
@[simp] theorem txnEnd_constructed (s : State) : (txnEnd s).constructed = s.constructed := rfl
@[simp] theorem txnEnd_fault (s : State) : (txnEnd s).fault = s.fault := rfl
@[simp] theorem txnEnd_csLevel (s : State) : (txnEnd s).csLevel = s.csLevel := rfl
@[simp] theorem txnEnd_txnDepth (s : State) : (txnEnd s).txnDepth = s.txnDepth - 1 := rfl
@[simp] theorem txnEnd_events (s : State) : (txnEnd s).events = s.events ++ [.txnEnd] := rfl
@[simp] theorem txnEnd_response (s : State) : (txnEnd s).response = s.response := rfl
@[simp] theorem txnEnd_pending (s : State) : (txnEnd s).pending = s.pending := rfl
@[simp] theorem txnEnd_sideInputs (s : State) : (txnEnd s).sideInputs = s.sideInputs := rfl
@[simp] theorem txnEnd_transportMayFail (s : State) : (txnEnd s).transportMayFail = s.transportMayFail := rfl
@[simp] theorem txnEnd_answers (s : State) : (txnEnd s).answers = s.answers := rfl
@[simp] theorem txnEnd_drawCount (s : State) : (txnEnd s).drawCount = s.drawCount := rfl

/-! ### `csAssert` -/

@[simp] theorem csAssert_csLine (s : State) : (csAssert s).csLine = s.csLine := rfl
@[simp] theorem csAssert_busFrequency (s : State) : (csAssert s).busFrequency = s.busFrequency := rfl
@[simp] theorem csAssert_vRef (s : State) : (csAssert s).vRef = s.vRef := rfl
@[simp] theorem csAssert_modeRegister (s : State) : (csAssert s).modeRegister = s.modeRegister := rfl
@[simp] theorem csAssert_configRegister (s : State) : (csAssert s).configRegister = s.configRegister := rfl
@[simp] theorem csAssert_activeChannel (s : State) : (csAssert s).activeChannel = s.activeChannel := rfl
@[simp] theorem csAssert_singleConversionMode (s : State) : (csAssert s).singleConversionMode = s.singleConversionMode := rfl
@[simp] theorem csAssert_channels (s : State) : (csAssert s).channels = s.channels := rfl
@[simp] theorem csAssert_constructed (s : State) : (csAssert s).constructed = s.constructed := rfl
@[simp] theorem csAssert_fault (s : State) : (csAssert s).fault = s.fault := rfl
@[simp] theorem csAssert_csLevel (s : State) : (csAssert s).csLevel = .asserted := rfl
@[simp] theorem csAssert_txnDepth (s : State) : (csAssert s).txnDepth = s.txnDepth := rfl
@[simp] theorem csAssert_events (s : State) : (csAssert s).events = s.events ++ [.csLow] := rfl
@[simp] theorem csAssert_response (s : State) : (csAssert s).response = s.response := rfl
@[simp] theorem csAssert_pending (s : State) : (csAssert s).pending = s.pending := rfl
@[simp] theorem csAssert_sideInputs (s : State) : (csAssert s).sideInputs = s.sideInputs := rfl
@[simp] theorem csAssert_transportMayFail (s : State) : (csAssert s).transportMayFail = s.transportMayFail := rfl
@[simp] theorem csAssert_answers (s : State) : (csAssert s).answers = s.answers := rfl
@[simp] theorem csAssert_drawCount (s : State) : (csAssert s).drawCount = s.drawCount := rfl

/-! ### `csRelease` -/

@[simp] theorem csRelease_csLine (s : State) : (csRelease s).csLine = s.csLine := rfl
@[simp] theorem csRelease_busFrequency (s : State) : (csRelease s).busFrequency = s.busFrequency := rfl
@[simp] theorem csRelease_vRef (s : State) : (csRelease s).vRef = s.vRef := rfl
@[simp] theorem csRelease_modeRegister (s : State) : (csRelease s).modeRegister = s.modeRegister := rfl
@[simp] theorem csRelease_configRegister (s : State) : (csRelease s).configRegister = s.configRegister := rfl
@[simp] theorem csRelease_activeChannel (s : State) : (csRelease s).activeChannel = s.activeChannel := rfl
@[simp] theorem csRelease_singleConversionMode (s : State) : (csRelease s).singleConversionMode = s.singleConversionMode := rfl
@[simp] theorem csRelease_channels (s : State) : (csRelease s).channels = s.channels := rfl
@[simp] theorem csRelease_constructed (s : State) : (csRelease s).constructed = s.constructed := rfl
@[simp] theorem csRelease_fault (s : State) : (csRelease s).fault = s.fault := rfl
@[simp] theorem csRelease_csLevel (s : State) : (csRelease s).csLevel = .released := rfl
@[simp] theorem csRelease_txnDepth (s : State) : (csRelease s).txnDepth = s.txnDepth := rfl
@[simp] theorem csRelease_events (s : State) : (csRelease s).events = s.events ++ [.csHigh] := rfl
@[simp] theorem csRelease_response (s : State) : (csRelease s).response = s.response := rfl
@[simp] theorem csRelease_pending (s : State) : (csRelease s).pending = s.pending := rfl
@[simp] theorem csRelease_sideInputs (s : State) : (csRelease s).sideInputs = s.sideInputs := rfl
@[simp] theorem csRelease_transportMayFail (s : State) : (csRelease s).transportMayFail = s.transportMayFail := rfl
@[simp] theorem csRelease_answers (s : State) : (csRelease s).answers = s.answers := rfl
@[simp] theorem csRelease_drawCount (s : State) : (csRelease s).drawCount = s.drawCount := rfl

/-! ### `sleep` -/

@[simp] theorem sleep_csLine (ms : Nat) (s : State) : (sleep ms s).csLine = s.csLine := rfl
@[simp] theorem sleep_busFrequency (ms : Nat) (s : State) : (sleep ms s).busFrequency = s.busFrequency := rfl
@[simp] theorem sleep_vRef (ms : Nat) (s : State) : (sleep ms s).vRef = s.vRef := rfl
@[simp] theorem sleep_modeRegister (ms : Nat) (s : State) : (sleep ms s).modeRegister = s.modeRegister := rfl
@[simp] theorem sleep_configRegister (ms : Nat) (s : State) : (sleep ms s).configRegister = s.configRegister := rfl
@[simp] theorem sleep_activeChannel (ms : Nat) (s : State) : (sleep ms s).activeChannel = s.activeChannel := rfl
@[simp] theorem sleep_singleConversionMode (ms : Nat) (s : State) : (sleep ms s).singleConversionMode = s.singleConversionMode := rfl
@[simp] theorem sleep_channels (ms : Nat) (s : State) : (sleep ms s).channels = s.channels := rfl
@[simp] theorem sleep_constructed (ms : Nat) (s : State) : (sleep ms s).constructed = s.constructed := rfl
@[simp] theorem sleep_fault (ms : Nat) (s : State) : (sleep ms s).fault = s.fault := rfl
@[simp] theorem sleep_csLevel (ms : Nat) (s : State) : (sleep ms s).csLevel = s.csLevel := rfl
@[simp] theorem sleep_txnDepth (ms : Nat) (s : State) : (sleep ms s).txnDepth = s.txnDepth := rfl
@[simp] theorem sleep_events (ms : Nat) (s : State) : (sleep ms s).events = s.events ++ [.sleep ms] := rfl
@[simp] theorem sleep_response (ms : Nat) (s : State) : (sleep ms s).response = s.response := rfl
@[simp] theorem sleep_pending (ms : Nat) (s : State) : (sleep ms s).pending = s.pending := rfl
@[simp] theorem sleep_sideInputs (ms : Nat) (s : State) : (sleep ms s).sideInputs = s.sideInputs := rfl
@[simp] theorem sleep_transportMayFail (ms : Nat) (s : State) : (sleep ms s).transportMayFail = s.transportMayFail := rfl
@[simp] theorem sleep_answers (ms : Nat) (s : State) : (sleep ms s).answers = s.answers := rfl
@[simp] theorem sleep_drawCount (ms : Nat) (s : State) : (sleep ms s).drawCount = s.drawCount := rfl

/-! ### `respond` -/

@[simp] theorem respond_csLine (r : Response) (s : State) : (respond r s).csLine = s.csLine := rfl
@[simp] theorem respond_busFrequency (r : Response) (s : State) : (respond r s).busFrequency = s.busFrequency := rfl
@[simp] theorem respond_vRef (r : Response) (s : State) : (respond r s).vRef = s.vRef := rfl
@[simp] theorem respond_modeRegister (r : Response) (s : State) : (respond r s).modeRegister = s.modeRegister := rfl
@[simp] theorem respond_configRegister (r : Response) (s : State) : (respond r s).configRegister = s.configRegister := rfl
@[simp] theorem respond_activeChannel (r : Response) (s : State) : (respond r s).activeChannel = s.activeChannel := rfl
@[simp] theorem respond_singleConversionMode (r : Response) (s : State) : (respond r s).singleConversionMode = s.singleConversionMode := rfl
@[simp] theorem respond_channels (r : Response) (s : State) : (respond r s).channels = s.channels := rfl
@[simp] theorem respond_constructed (r : Response) (s : State) : (respond r s).constructed = s.constructed := rfl
@[simp] theorem respond_fault (r : Response) (s : State) : (respond r s).fault = s.fault := rfl
@[simp] theorem respond_csLevel (r : Response) (s : State) : (respond r s).csLevel = s.csLevel := rfl
@[simp] theorem respond_txnDepth (r : Response) (s : State) : (respond r s).txnDepth = s.txnDepth := rfl
@[simp] theorem respond_events (r : Response) (s : State) : (respond r s).events = s.events := rfl
@[simp] theorem respond_response (r : Response) (s : State) : (respond r s).response = r := rfl
@[simp] theorem respond_pending (r : Response) (s : State) : (respond r s).pending = s.pending := rfl
@[simp] theorem respond_sideInputs (r : Response) (s : State) : (respond r s).sideInputs = s.sideInputs := rfl
@[simp] theorem respond_transportMayFail (r : Response) (s : State) : (respond r s).transportMayFail = s.transportMayFail := rfl
@[simp] theorem respond_answers (r : Response) (s : State) : (respond r s).answers = s.answers := rfl
@[simp] theorem respond_drawCount (r : Response) (s : State) : (respond r s).drawCount = s.drawCount := rfl

/-! ### `setFault` -/

@[simp] theorem setFault_csLine (s : State) : (setFault s).csLine = s.csLine := rfl
@[simp] theorem setFault_busFrequency (s : State) : (setFault s).busFrequency = s.busFrequency := rfl
@[simp] theorem setFault_vRef (s : State) : (setFault s).vRef = s.vRef := rfl
@[simp] theorem setFault_modeRegister (s : State) : (setFault s).modeRegister = s.modeRegister := rfl
@[simp] theorem setFault_configRegister (s : State) : (setFault s).configRegister = s.configRegister := rfl
@[simp] theorem setFault_activeChannel (s : State) : (setFault s).activeChannel = s.activeChannel := rfl
@[simp] theorem setFault_singleConversionMode (s : State) : (setFault s).singleConversionMode = s.singleConversionMode := rfl
@[simp] theorem setFault_channels (s : State) : (setFault s).channels = s.channels := rfl
@[simp] theorem setFault_constructed (s : State) : (setFault s).constructed = s.constructed := rfl
@[simp] theorem setFault_fault (s : State) : (setFault s).fault = true := rfl
@[simp] theorem setFault_csLevel (s : State) : (setFault s).csLevel = s.csLevel := rfl
@[simp] theorem setFault_txnDepth (s : State) : (setFault s).txnDepth = s.txnDepth := rfl
@[simp] theorem setFault_events (s : State) : (setFault s).events = s.events := rfl
@[simp] theorem setFault_response (s : State) : (setFault s).response = s.response := rfl
@[simp] theorem setFault_pending (s : State) : (setFault s).pending = s.pending := rfl
@[simp] theorem setFault_sideInputs (s : State) : (setFault s).sideInputs = s.sideInputs := rfl
@[simp] theorem setFault_transportMayFail (s : State) : (setFault s).transportMayFail = s.transportMayFail := rfl
@[simp] theorem setFault_answers (s : State) : (setFault s).answers = s.answers := rfl
@[simp] theorem setFault_drawCount (s : State) : (setFault s).drawCount = s.drawCount := rfl

/-! ### `setSingleFlag` -/

@[simp] theorem setSingleFlag_csLine (b : Bool) (s : State) : (setSingleFlag b s).csLine = s.csLine := rfl
@[simp] theorem setSingleFlag_busFrequency (b : Bool) (s : State) : (setSingleFlag b s).busFrequency = s.busFrequency := rfl
@[simp] theorem setSingleFlag_vRef (b : Bool) (s : State) : (setSingleFlag b s).vRef = s.vRef := rfl
@[simp] theorem setSingleFlag_modeRegister (b : Bool) (s : State) : (setSingleFlag b s).modeRegister = s.modeRegister := rfl
@[simp] theorem setSingleFlag_configRegister (b : Bool) (s : State) : (setSingleFlag b s).configRegister = s.configRegister := rfl
@[simp] theorem setSingleFlag_activeChannel (b : Bool) (s : State) : (setSingleFlag b s).activeChannel = s.activeChannel := rfl
@[simp] theorem setSingleFlag_singleConversionMode (b : Bool) (s : State) : (setSingleFlag b s).singleConversionMode = b := rfl
@[simp] theorem setSingleFlag_channels (b : Bool) (s : State) : (setSingleFlag b s).channels = s.channels := rfl
@[simp] theorem setSingleFlag_constructed (b : Bool) (s : State) : (setSingleFlag b s).constructed = s.constructed := rfl
@[simp] theorem setSingleFlag_fault (b : Bool) (s : State) : (setSingleFlag b s).fault = s.fault := rfl
@[simp] theorem setSingleFlag_csLevel (b : Bool) (s : State) : (setSingleFlag b s).csLevel = s.csLevel := rfl
@[simp] theorem setSingleFlag_txnDepth (b : Bool) (s : State) : (setSingleFlag b s).txnDepth = s.txnDepth := rfl
@[simp] theorem setSingleFlag_events (b : Bool) (s : State) : (setSingleFlag b s).events = s.events := rfl
@[simp] theorem setSingleFlag_response (b : Bool) (s : State) : (setSingleFlag b s).response = s.response := rfl
@[simp] theorem setSingleFlag_pending (b : Bool) (s : State) : (setSingleFlag b s).pending = s.pending := rfl
@[simp] theorem setSingleFlag_sideInputs (b : Bool) (s : State) : (setSingleFlag b s).sideInputs = s.sideInputs := rfl
@[simp] theorem setSingleFlag_transportMayFail (b : Bool) (s : State) : (setSingleFlag b s).transportMayFail = s.transportMayFail := rfl
@[simp] theorem setSingleFlag_answers (b : Bool) (s : State) : (setSingleFlag b s).answers = s.answers := rfl
@[simp] theorem setSingleFlag_drawCount (b : Bool) (s : State) : (setSingleFlag b s).drawCount = s.drawCount := rfl

/-! ### `markConstructed` -/

@[simp] theorem markConstructed_csLine (s : State) : (markConstructed s).csLine = s.csLine := rfl
@[simp] theorem markConstructed_busFrequency (s : State) : (markConstructed s).busFrequency = s.busFrequency := rfl
@[simp] theorem markConstructed_vRef (s : State) : (markConstructed s).vRef = s.vRef := rfl
@[simp] theorem markConstructed_modeRegister (s : State) : (markConstructed s).modeRegister = s.modeRegister := rfl
@[simp] theorem markConstructed_configRegister (s : State) : (markConstructed s).configRegister = s.configRegister := rfl
@[simp] theorem markConstructed_activeChannel (s : State) : (markConstructed s).activeChannel = s.activeChannel := rfl
@[simp] theorem markConstructed_singleConversionMode (s : State) : (markConstructed s).singleConversionMode = s.singleConversionMode := rfl
@[simp] theorem markConstructed_channels (s : State) : (markConstructed s).channels = s.channels := rfl
@[simp] theorem markConstructed_constructed (s : State) : (markConstructed s).constructed = true := rfl
@[simp] theorem markConstructed_fault (s : State) : (markConstructed s).fault = false := rfl
@[simp] theorem markConstructed_csLevel (s : State) : (markConstructed s).csLevel = s.csLevel := rfl
@[simp] theorem markConstructed_txnDepth (s : State) : (markConstructed s).txnDepth = s.txnDepth := rfl
@[simp] theorem markConstructed_events (s : State) : (markConstructed s).events = s.events := rfl
@[simp] theorem markConstructed_response (s : State) : (markConstructed s).response = s.response := rfl
@[simp] theorem markConstructed_pending (s : State) : (markConstructed s).pending = s.pending := rfl
@[simp] theorem markConstructed_sideInputs (s : State) : (markConstructed s).sideInputs = s.sideInputs := rfl
@[simp] theorem markConstructed_transportMayFail (s : State) : (markConstructed s).transportMayFail = s.transportMayFail := rfl
@[simp] theorem markConstructed_answers (s : State) : (markConstructed s).answers = s.answers := rfl
@[simp] theorem markConstructed_drawCount (s : State) : (markConstructed s).drawCount = s.drawCount := rfl

/-! ### `latchSideInputs` -/

@[simp] theorem latchSideInputs_csLine (s : State) : (latchSideInputs s).csLine = s.sideInputs.csLine := rfl
@[simp] theorem latchSideInputs_busFrequency (s : State) : (latchSideInputs s).busFrequency = s.sideInputs.busFrequency := rfl
@[simp] theorem latchSideInputs_vRef (s : State) : (latchSideInputs s).vRef = s.sideInputs.vRef := rfl
@[simp] theorem latchSideInputs_modeRegister (s : State) : (latchSideInputs s).modeRegister = s.modeRegister := rfl
@[simp] theorem latchSideInputs_configRegister (s : State) : (latchSideInputs s).configRegister = s.configRegister := rfl
@[simp] theorem latchSideInputs_activeChannel (s : State) : (latchSideInputs s).activeChannel = s.activeChannel := rfl
@[simp] theorem latchSideInputs_singleConversionMode (s : State) : (latchSideInputs s).singleConversionMode = s.singleConversionMode := rfl
@[simp] theorem latchSideInputs_channels (s : State) : (latchSideInputs s).channels = s.channels := rfl
@[simp] theorem latchSideInputs_constructed (s : State) : (latchSideInputs s).constructed = s.constructed := rfl
@[simp] theorem latchSideInputs_fault (s : State) : (latchSideInputs s).fault = s.fault := rfl
@[simp] theorem latchSideInputs_csLevel (s : State) : (latchSideInputs s).csLevel = s.csLevel := rfl
@[simp] theorem latchSideInputs_txnDepth (s : State) : (latchSideInputs s).txnDepth = s.txnDepth := rfl
@[simp] theorem latchSideInputs_events (s : State) : (latchSideInputs s).events = s.events := rfl
@[simp] theorem latchSideInputs_response (s : State) : (latchSideInputs s).response = s.response := rfl
@[simp] theorem latchSideInputs_pending (s : State) : (latchSideInputs s).pending = s.pending := rfl
@[simp] theorem latchSideInputs_sideInputs (s : State) : (latchSideInputs s).sideInputs = s.sideInputs := rfl
@[simp] theorem latchSideInputs_transportMayFail (s : State) : (latchSideInputs s).transportMayFail = s.transportMayFail := rfl
@[simp] theorem latchSideInputs_answers (s : State) : (latchSideInputs s).answers = s.answers := rfl
@[simp] theorem latchSideInputs_drawCount (s : State) : (latchSideInputs s).drawCount = s.drawCount := rfl

/-! ### `setActiveEntry` -/

@[simp] theorem setActiveEntry_csLine (c : ChannelConfig) (s : State) : (setActiveEntry c s).csLine = s.csLine := rfl
@[simp] theorem setActiveEntry_busFrequency (c : ChannelConfig) (s : State) : (setActiveEntry c s).busFrequency = s.busFrequency := rfl
@[simp] theorem setActiveEntry_vRef (c : ChannelConfig) (s : State) : (setActiveEntry c s).vRef = s.vRef := rfl
@[simp] theorem setActiveEntry_modeRegister (c : ChannelConfig) (s : State) : (setActiveEntry c s).modeRegister = s.modeRegister := rfl
@[simp] theorem setActiveEntry_configRegister (c : ChannelConfig) (s : State) : (setActiveEntry c s).configRegister = s.configRegister := rfl
@[simp] theorem setActiveEntry_activeChannel (c : ChannelConfig) (s : State) : (setActiveEntry c s).activeChannel = s.activeChannel := rfl
@[simp] theorem setActiveEntry_singleConversionMode (c : ChannelConfig) (s : State) : (setActiveEntry c s).singleConversionMode = s.singleConversionMode := rfl
@[simp] theorem setActiveEntry_channels (c : ChannelConfig) (s : State) : (setActiveEntry c s).channels = s.channels.set s.activeChannel.toNat c s.activeChannel.isLt := rfl
@[simp] theorem setActiveEntry_constructed (c : ChannelConfig) (s : State) : (setActiveEntry c s).constructed = s.constructed := rfl
@[simp] theorem setActiveEntry_fault (c : ChannelConfig) (s : State) : (setActiveEntry c s).fault = s.fault := rfl
@[simp] theorem setActiveEntry_csLevel (c : ChannelConfig) (s : State) : (setActiveEntry c s).csLevel = s.csLevel := rfl
@[simp] theorem setActiveEntry_txnDepth (c : ChannelConfig) (s : State) : (setActiveEntry c s).txnDepth = s.txnDepth := rfl
@[simp] theorem setActiveEntry_events (c : ChannelConfig) (s : State) : (setActiveEntry c s).events = s.events := rfl
@[simp] theorem setActiveEntry_response (c : ChannelConfig) (s : State) : (setActiveEntry c s).response = s.response := rfl
@[simp] theorem setActiveEntry_pending (c : ChannelConfig) (s : State) : (setActiveEntry c s).pending = s.pending := rfl
@[simp] theorem setActiveEntry_sideInputs (c : ChannelConfig) (s : State) : (setActiveEntry c s).sideInputs = s.sideInputs := rfl
@[simp] theorem setActiveEntry_transportMayFail (c : ChannelConfig) (s : State) : (setActiveEntry c s).transportMayFail = s.transportMayFail := rfl
@[simp] theorem setActiveEntry_answers (c : ChannelConfig) (s : State) : (setActiveEntry c s).answers = s.answers := rfl
@[simp] theorem setActiveEntry_drawCount (c : ChannelConfig) (s : State) : (setActiveEntry c s).drawCount = s.drawCount := rfl

/-! ### `rebuildConfig` -/

@[simp] theorem rebuildConfig_csLine (s : State) : (rebuildConfig s).csLine = s.csLine := rfl
@[simp] theorem rebuildConfig_busFrequency (s : State) : (rebuildConfig s).busFrequency = s.busFrequency := rfl
@[simp] theorem rebuildConfig_vRef (s : State) : (rebuildConfig s).vRef = s.vRef := rfl
@[simp] theorem rebuildConfig_modeRegister (s : State) : (rebuildConfig s).modeRegister = s.modeRegister := rfl
@[simp] theorem rebuildConfig_configRegister (s : State) : (rebuildConfig s).configRegister = encodeConfig s.activeChannel (activeEntry s) := rfl
@[simp] theorem rebuildConfig_activeChannel (s : State) : (rebuildConfig s).activeChannel = s.activeChannel := rfl
@[simp] theorem rebuildConfig_singleConversionMode (s : State) : (rebuildConfig s).singleConversionMode = s.singleConversionMode := rfl
@[simp] theorem rebuildConfig_channels (s : State) : (rebuildConfig s).channels = s.channels := rfl
@[simp] theorem rebuildConfig_constructed (s : State) : (rebuildConfig s).constructed = s.constructed := rfl
@[simp] theorem rebuildConfig_fault (s : State) : (rebuildConfig s).fault = s.fault := rfl
@[simp] theorem rebuildConfig_csLevel (s : State) : (rebuildConfig s).csLevel = s.csLevel := rfl
@[simp] theorem rebuildConfig_txnDepth (s : State) : (rebuildConfig s).txnDepth = s.txnDepth := rfl
@[simp] theorem rebuildConfig_events (s : State) : (rebuildConfig s).events = s.events := rfl
@[simp] theorem rebuildConfig_response (s : State) : (rebuildConfig s).response = s.response := rfl
@[simp] theorem rebuildConfig_pending (s : State) : (rebuildConfig s).pending = s.pending := rfl
@[simp] theorem rebuildConfig_sideInputs (s : State) : (rebuildConfig s).sideInputs = s.sideInputs := rfl
@[simp] theorem rebuildConfig_transportMayFail (s : State) : (rebuildConfig s).transportMayFail = s.transportMayFail := rfl
@[simp] theorem rebuildConfig_answers (s : State) : (rebuildConfig s).answers = s.answers := rfl
@[simp] theorem rebuildConfig_drawCount (s : State) : (rebuildConfig s).drawCount = s.drawCount := rfl

/-! ### `beginIssue` -/

@[simp] theorem beginIssue_csLine (iss : Issue) (rest : List Issue) (s : State) : (beginIssue iss rest s).csLine = s.csLine := rfl
@[simp] theorem beginIssue_busFrequency (iss : Issue) (rest : List Issue) (s : State) : (beginIssue iss rest s).busFrequency = s.busFrequency := rfl
@[simp] theorem beginIssue_vRef (iss : Issue) (rest : List Issue) (s : State) : (beginIssue iss rest s).vRef = s.vRef := rfl
@[simp] theorem beginIssue_modeRegister (iss : Issue) (rest : List Issue) (s : State) : (beginIssue iss rest s).modeRegister = s.modeRegister := rfl
@[simp] theorem beginIssue_configRegister (iss : Issue) (rest : List Issue) (s : State) : (beginIssue iss rest s).configRegister = s.configRegister := rfl
@[simp] theorem beginIssue_activeChannel (iss : Issue) (rest : List Issue) (s : State) : (beginIssue iss rest s).activeChannel = s.activeChannel := rfl
@[simp] theorem beginIssue_singleConversionMode (iss : Issue) (rest : List Issue) (s : State) : (beginIssue iss rest s).singleConversionMode = s.singleConversionMode := rfl
@[simp] theorem beginIssue_channels (iss : Issue) (rest : List Issue) (s : State) : (beginIssue iss rest s).channels = s.channels := rfl
@[simp] theorem beginIssue_constructed (iss : Issue) (rest : List Issue) (s : State) : (beginIssue iss rest s).constructed = s.constructed := rfl
@[simp] theorem beginIssue_fault (iss : Issue) (rest : List Issue) (s : State) : (beginIssue iss rest s).fault = s.fault := rfl
@[simp] theorem beginIssue_csLevel (iss : Issue) (rest : List Issue) (s : State) : (beginIssue iss rest s).csLevel = s.csLevel := rfl
@[simp] theorem beginIssue_txnDepth (iss : Issue) (rest : List Issue) (s : State) : (beginIssue iss rest s).txnDepth = s.txnDepth := rfl
@[simp] theorem beginIssue_events (iss : Issue) (rest : List Issue) (s : State) : (beginIssue iss rest s).events = s.events := rfl
@[simp] theorem beginIssue_response (iss : Issue) (rest : List Issue) (s : State) : (beginIssue iss rest s).response = s.response := rfl
@[simp] theorem beginIssue_pending (iss : Issue) (rest : List Issue) (s : State) : (beginIssue iss rest s).pending = rest := rfl
@[simp] theorem beginIssue_sideInputs (iss : Issue) (rest : List Issue) (s : State) : (beginIssue iss rest s).sideInputs = iss.side := rfl
@[simp] theorem beginIssue_transportMayFail (iss : Issue) (rest : List Issue) (s : State) : (beginIssue iss rest s).transportMayFail = s.transportMayFail := rfl
@[simp] theorem beginIssue_answers (iss : Issue) (rest : List Issue) (s : State) : (beginIssue iss rest s).answers = s.answers := rfl
@[simp] theorem beginIssue_drawCount (iss : Issue) (rest : List Issue) (s : State) : (beginIssue iss rest s).drawCount = s.drawCount := rfl

/-! ### `issueNext` -/

@[simp] theorem issueNext_csLine (w : Words) (s : State) : (issueNext w s).csLine = s.csLine := rfl
@[simp] theorem issueNext_busFrequency (w : Words) (s : State) : (issueNext w s).busFrequency = s.busFrequency := rfl
@[simp] theorem issueNext_vRef (w : Words) (s : State) : (issueNext w s).vRef = s.vRef := rfl
@[simp] theorem issueNext_modeRegister (w : Words) (s : State) : (issueNext w s).modeRegister = s.modeRegister := rfl
@[simp] theorem issueNext_configRegister (w : Words) (s : State) : (issueNext w s).configRegister = s.configRegister := rfl
@[simp] theorem issueNext_activeChannel (w : Words) (s : State) : (issueNext w s).activeChannel = s.activeChannel := rfl
@[simp] theorem issueNext_singleConversionMode (w : Words) (s : State) : (issueNext w s).singleConversionMode = s.singleConversionMode := rfl
@[simp] theorem issueNext_channels (w : Words) (s : State) : (issueNext w s).channels = s.channels := rfl
@[simp] theorem issueNext_constructed (w : Words) (s : State) : (issueNext w s).constructed = s.constructed := rfl
@[simp] theorem issueNext_fault (w : Words) (s : State) : (issueNext w s).fault = s.fault := rfl
@[simp] theorem issueNext_csLevel (w : Words) (s : State) : (issueNext w s).csLevel = s.csLevel := rfl
@[simp] theorem issueNext_txnDepth (w : Words) (s : State) : (issueNext w s).txnDepth = s.txnDepth := rfl
@[simp] theorem issueNext_events (w : Words) (s : State) : (issueNext w s).events = s.events := rfl
@[simp] theorem issueNext_response (w : Words) (s : State) : (issueNext w s).response = s.response := rfl
@[simp] theorem issueNext_pending (w : Words) (s : State) : (issueNext w s).pending = ⟨w, s.sideInputs⟩ :: s.pending := rfl
@[simp] theorem issueNext_sideInputs (w : Words) (s : State) : (issueNext w s).sideInputs = s.sideInputs := rfl
@[simp] theorem issueNext_transportMayFail (w : Words) (s : State) : (issueNext w s).transportMayFail = s.transportMayFail := rfl
@[simp] theorem issueNext_answers (w : Words) (s : State) : (issueNext w s).answers = s.answers := rfl
@[simp] theorem issueNext_drawCount (w : Words) (s : State) : (issueNext w s).drawCount = s.drawCount := rfl

end Sys2Proof.Laws
end

