-- ==== Sys2Proof/Laws/Ops.lean ====
section
/-! SUPPORT. What each shared operation does: the primitives when the transport answers, the frames and sequences built of them when
every answer they need comes, and how an operation ends. -/
namespace Sys2Proof.Laws
open Sys2Proof.Machine

/-! ### Sequences -/

@[simp] theorem andThen_done {α β : Type} (a : α) (s : State) (k : α → State → Flow β) :
    (Flow.done a s).andThen k = k a s := rfl

@[simp] theorem andThen_raised {α β : Type} (s : State) (k : α → State → Flow β) :
    (Flow.raised s : Flow α).andThen k = .raised s := rfl

@[simp] theorem finish_done {α : Type} (result : α → Result) (a : α) (s : State) :
    finish result (.done a s) = returnOk (result a) s := rfl

@[simp] theorem finish_raised {α : Type} (result : α → Result) (s : State) :
    finish result (.raised s) = raise .transportFailure none s := rfl

/-- An operation on a constructed block is its body. -/
theorem operation_of_constructed {s : State} (h : s.constructed = true) (body : State → State) :
    operation s body = .next (body s) := by simp [operation, h]

/-- An operation on a block not constructed only answers `NotConstructed`. -/
theorem operation_of_not_constructed {s : State} (h : s.constructed = false) (body : State → State) :
    operation s body = .next (respond ⟨.notConstructed, none, .nothing⟩ s) := by
  simp [operation, h, raise]

/-! ### The transport's answers -/

/-- The next answer after `n` are used up is the `n`-th from before. -/
theorem answerAt_dropAnswers (n k : Nat) (s : State) : answerAt k (dropAnswers n s) = answerAt (n + k) s := by
  unfold answerAt
  simp only [dropAnswers_answers, dropAnswers_drawCount, List.getElem?_drop, List.length_drop]
  by_cases h : n + k < s.answers.length
  · simp [List.getElem?_eq_getElem h]
  · rw [List.getElem?_eq_none (by omega)]
    have e : s.drawCount + (n - s.answers.length) + (k - (s.answers.length - n)) =
        s.drawCount + (n + k - s.answers.length) := by omega
    simp [e]

/-- Using up answers adds up. -/
theorem dropAnswers_add (n m : Nat) (s : State) : dropAnswers m (dropAnswers n s) = dropAnswers (n + m) s := by
  unfold dropAnswers
  simp only [List.drop_drop, List.length_drop, State.mk.injEq, true_and]
  omega

/-- What the answers depend on. -/
theorem answerAt_congr {s t : State} (ha : t.answers = s.answers) (hd : t.drawCount = s.drawCount) (k : Nat) :
    answerAt k t = answerAt k s := by unfold answerAt; rw [ha, hd]

/-- What the failures depend on. -/
theorem answerFails_congr {s t : State} (hm : t.transportMayFail = s.transportMayFail) (ha : t.answers = s.answers)
    (hd : t.drawCount = s.drawCount) (k : Nat) : answerFails k t = answerFails k s := by
  unfold answerFails; rw [hm, answerAt_congr ha hd]

/-- The transport that may not fail never does. -/
theorem transportOk_of_may_not_fail {s : State} (h : s.transportMayFail = false) (n : Nat) : TransportOk n s := by
  intro k _; simp [answerFails, h]

/-! ### What a run of primitives leaves

Everything on the wire changes the answers, the events, the line and the bracket, and nothing else; every primitive and frame
below is stated in this one form. -/

/-- `n` answers used up, `es` emitted, chip-select at `l`, `d` brackets open, all else as before. -/
def afterWire (n : Nat) (es : List Event) (l : CsLevel) (d : Nat) (s : State) : State :=
  { s with
    answers := s.answers.drop n, drawCount := s.drawCount + (n - s.answers.length),
    events := s.events ++ es, csLevel := l, txnDepth := d }

@[simp] theorem afterWire_csLine (n : Nat) (es : List Event) (l : CsLevel) (d : Nat) (s : State) : (afterWire n es l d s).csLine = s.csLine := rfl
@[simp] theorem afterWire_busFrequency (n : Nat) (es : List Event) (l : CsLevel) (d : Nat) (s : State) : (afterWire n es l d s).busFrequency = s.busFrequency := rfl
@[simp] theorem afterWire_vRef (n : Nat) (es : List Event) (l : CsLevel) (d : Nat) (s : State) : (afterWire n es l d s).vRef = s.vRef := rfl
@[simp] theorem afterWire_modeRegister (n : Nat) (es : List Event) (l : CsLevel) (d : Nat) (s : State) : (afterWire n es l d s).modeRegister = s.modeRegister := rfl
@[simp] theorem afterWire_configRegister (n : Nat) (es : List Event) (l : CsLevel) (d : Nat) (s : State) : (afterWire n es l d s).configRegister = s.configRegister := rfl
@[simp] theorem afterWire_activeChannel (n : Nat) (es : List Event) (l : CsLevel) (d : Nat) (s : State) : (afterWire n es l d s).activeChannel = s.activeChannel := rfl
@[simp] theorem afterWire_singleConversionMode (n : Nat) (es : List Event) (l : CsLevel) (d : Nat) (s : State) : (afterWire n es l d s).singleConversionMode = s.singleConversionMode := rfl
@[simp] theorem afterWire_channels (n : Nat) (es : List Event) (l : CsLevel) (d : Nat) (s : State) : (afterWire n es l d s).channels = s.channels := rfl
@[simp] theorem afterWire_constructed (n : Nat) (es : List Event) (l : CsLevel) (d : Nat) (s : State) : (afterWire n es l d s).constructed = s.constructed := rfl
@[simp] theorem afterWire_fault (n : Nat) (es : List Event) (l : CsLevel) (d : Nat) (s : State) : (afterWire n es l d s).fault = s.fault := rfl
@[simp] theorem afterWire_response (n : Nat) (es : List Event) (l : CsLevel) (d : Nat) (s : State) : (afterWire n es l d s).response = s.response := rfl
@[simp] theorem afterWire_pending (n : Nat) (es : List Event) (l : CsLevel) (d : Nat) (s : State) : (afterWire n es l d s).pending = s.pending := rfl
@[simp] theorem afterWire_sideInputs (n : Nat) (es : List Event) (l : CsLevel) (d : Nat) (s : State) : (afterWire n es l d s).sideInputs = s.sideInputs := rfl
@[simp] theorem afterWire_transportMayFail (n : Nat) (es : List Event) (l : CsLevel) (d : Nat) (s : State) : (afterWire n es l d s).transportMayFail = s.transportMayFail := rfl
@[simp] theorem afterWire_csLevel (n : Nat) (es : List Event) (l : CsLevel) (d : Nat) (s : State) : (afterWire n es l d s).csLevel = l := rfl
@[simp] theorem afterWire_txnDepth (n : Nat) (es : List Event) (l : CsLevel) (d : Nat) (s : State) : (afterWire n es l d s).txnDepth = d := rfl
@[simp] theorem afterWire_events (n : Nat) (es : List Event) (l : CsLevel) (d : Nat) (s : State) : (afterWire n es l d s).events = s.events ++ es := rfl
@[simp] theorem afterWire_answers (n : Nat) (es : List Event) (l : CsLevel) (d : Nat) (s : State) : (afterWire n es l d s).answers = s.answers.drop n := rfl
@[simp] theorem afterWire_drawCount (n : Nat) (es : List Event) (l : CsLevel) (d : Nat) (s : State) : (afterWire n es l d s).drawCount = s.drawCount + (n - s.answers.length) := rfl

/-- One run after another is one run. -/
@[simp] theorem afterWire_afterWire (n m : Nat) (es fs : List Event) (l l' : CsLevel) (d d' : Nat) (s : State) :
    afterWire m fs l' d' (afterWire n es l d s) = afterWire (n + m) (es ++ fs) l' d' s := by
  unfold afterWire
  simp only [List.drop_drop, List.length_drop, List.append_assoc, State.mk.injEq, true_and]
  omega

@[simp] theorem csAssert_eq (s : State) : csAssert s = afterWire 0 [.csLow] .asserted s.txnDepth s := by
  simp [csAssert, emit, afterWire]

@[simp] theorem csRelease_eq (s : State) : csRelease s = afterWire 0 [.csHigh] .released s.txnDepth s := by
  simp [csRelease, emit, afterWire]

@[simp] theorem txnEnd_eq (s : State) : txnEnd s = afterWire 0 [.txnEnd] s.csLevel (s.txnDepth - 1) s := by
  simp [txnEnd, emit, afterWire]

@[simp] theorem sleep_eq (ms : Nat) (s : State) : sleep ms s = afterWire 0 [.sleep ms] s.csLevel s.txnDepth s := by
  simp [sleep, emit, afterWire]

/-- The answers after a run are the later ones from before. -/
@[simp] theorem answerAt_afterWire (k n : Nat) (es : List Event) (l : CsLevel) (d : Nat) (s : State) :
    answerAt k (afterWire n es l d s) = answerAt (n + k) s := by
  rw [← answerAt_dropAnswers, answerAt_congr (s := dropAnswers n s)] <;> rfl

@[simp] theorem byteAt_afterWire (k n : Nat) (es : List Event) (l : CsLevel) (d : Nat) (s : State) :
    byteAt k (afterWire n es l d s) = byteAt (n + k) s := by simp [byteAt]

@[simp] theorem answerFails_afterWire (k n : Nat) (es : List Event) (l : CsLevel) (d : Nat) (s : State) :
    answerFails k (afterWire n es l d s) = answerFails (n + k) s := by simp [answerFails]

theorem transportOk_mono {n m : Nat} {s : State} (h : TransportOk n s) (hm : m ≤ n) : TransportOk m s :=
  fun k hk => h k (by omega)

theorem transportOk_afterWire {k n : Nat} {es : List Event} {l : CsLevel} {d : Nat} {s : State}
    (h : TransportOk (n + k) s) : TransportOk k (afterWire n es l d s) := by
  intro j hj; rw [answerFails_afterWire]; exact h _ (by omega)

/-- `TransportOk` looks at the answers alone. -/
theorem transportOk_congr {n : Nat} {s t : State} (hm : t.transportMayFail = s.transportMayFail)
    (ha : t.answers = s.answers) (hd : t.drawCount = s.drawCount) (h : TransportOk n s) : TransportOk n t :=
  fun k hk => by rw [answerFails_congr hm ha hd]; exact h k hk

@[simp] theorem writeXfers_afterWire (cmd : Byte) (v : Word) (k n : Nat) (es : List Event) (l : CsLevel) (d : Nat)
    (s : State) : writeXfers cmd v k (afterWire n es l d s) = writeXfers cmd v (n + k) s := by
  simp [writeXfers, Nat.add_assoc]

@[simp] theorem writeFrameEvents_afterWire (cmd : Byte) (v : Word) (k n : Nat) (es : List Event) (l : CsLevel) (d : Nat)
    (s : State) : writeFrameEvents cmd v k (afterWire n es l d s) = writeFrameEvents cmd v (n + k) s := by
  simp [writeFrameEvents, Nat.add_assoc]

@[simp] theorem readXfers_afterWire (k n : Nat) (es : List Event) (l : CsLevel) (d : Nat) (s : State) :
    readXfers k (afterWire n es l d s) = readXfers (n + k) s := by simp [readXfers, Nat.add_assoc]

@[simp] theorem rawAt_afterWire (k n : Nat) (es : List Event) (l : CsLevel) (d : Nat) (s : State) :
    rawAt k (afterWire n es l d s) = rawAt (n + k) s := by simp [rawAt, Nat.add_assoc]

@[simp] theorem configWordOf_afterWire (ch : Channel) (n : Nat) (es : List Event) (l : CsLevel) (d : Nat) (s : State) :
    configWordOf ch (afterWire n es l d s) = configWordOf ch s := rfl

@[simp] theorem singleRelease_afterWire (n : Nat) (es : List Event) (l : CsLevel) (d : Nat) (s : State) :
    singleRelease (afterWire n es l d s) = singleRelease s := rfl

/-! ### Primitives -/

theorem txnBegin_ok {s : State} (h : answerFails 0 s = false) :
    txnBegin s = .done () (afterWire 1 [.txnBegin] s.csLevel (s.txnDepth + 1) s) := by
  rw [txnBegin, if_neg (by simp [h])]; rfl

theorem txnBegin_fails {s : State} (h : answerFails 0 s = true) :
    txnBegin s = .raised (afterWire 1 [.txnFail] s.csLevel s.txnDepth s) := by rw [txnBegin, if_pos h]; rfl

theorem xfer_ok {s : State} (out : Byte) (h : answerFails 0 s = false) :
    xfer out s = .done (byteAt 0 s) (afterWire 1 [.xfer out (byteAt 0 s)] s.csLevel s.txnDepth s) := by
  rw [xfer, if_neg (by simp [h])]; rfl

theorem xfer_fails {s : State} (out : Byte) (h : answerFails 0 s = true) :
    xfer out s = .raised (afterWire 1 [.xferFail out] s.csLevel s.txnDepth s) := by rw [xfer, if_pos h]; rfl

/-- `MemWrite` when its three exchanges are answered (00 R14). -/
theorem memWrite_ok {s : State} (cmd : Byte) (v : Word) (h : TransportOk 3 s) :
    memWrite cmd v s = .done () (afterWire 3 (writeXfers cmd v 0 s) s.csLevel s.txnDepth s) := by
  rw [memWrite, xfer_ok cmd (h 0 (by omega)), andThen_done,
    xfer_ok _ (by rw [answerFails_afterWire]; exact h 1 (by omega)), andThen_done,
    xfer_ok _ (by simp only [answerFails_afterWire]; exact h 2 (by omega)), andThen_done]
  simp [writeXfers, highByte, lowByte]

/-- `MemRead` when its four exchanges are answered (00 R14). -/
theorem memRead_ok {s : State} (h : TransportOk 4 s) :
    memRead 0x58 s = .done (rawAt 0 s) (afterWire 4 (readXfers 0 s) s.csLevel s.txnDepth s) := by
  rw [memRead, xfer_ok _ (h 0 (by omega)), andThen_done,
    xfer_ok _ (by rw [answerFails_afterWire]; exact h 1 (by omega)), andThen_done,
    xfer_ok _ (by simp only [answerFails_afterWire]; exact h 2 (by omega)), andThen_done,
    xfer_ok _ (by simp only [answerFails_afterWire]; exact h 3 (by omega)), andThen_done]
  simp [readXfers, joinRaw, rawAt]

/-! ### Frames -/

/-- `writeConfigRegister` when its answers come (41 R141): the line ends released, the depth where it began. -/
theorem writeConfigRegister_ok {s : State} (h : TransportOk 4 s) :
    writeConfigRegister s =
      .done () (afterWire 4 (writeFrameEvents 0x10 s.configRegister 0 s) .released s.txnDepth s) := by
  rw [writeConfigRegister, txnBegin_ok (h 0 (by omega)), andThen_done, csAssert_eq, afterWire_afterWire,
    memWrite_ok _ _ (transportOk_afterWire h), andThen_done]
  simp [writeFrameEvents]

/-- `writeModeRegister` when its answers come (41 R142). -/
theorem writeModeRegister_ok {s : State} (h : TransportOk 4 s) :
    writeModeRegister s =
      .done () (afterWire 4 (writeFrameEvents 0x08 s.modeRegister 0 s) .released s.txnDepth s) := by
  rw [writeModeRegister, txnBegin_ok (h 0 (by omega)), andThen_done, csAssert_eq, afterWire_afterWire,
    memWrite_ok _ _ (transportOk_afterWire h), andThen_done]
  simp [writeFrameEvents]

/-- `startConversion` when its answers come (41 R143): chip-select stays asserted. -/
theorem startConversion_ok {s : State} (h : TransportOk 3 s) :
    startConversion s =
      .done () (afterWire 3 (.csLow :: writeXfers 0x08 s.modeRegister 0 s) .asserted s.txnDepth s) := by
  rw [startConversion, csAssert_eq, memWrite_ok _ _ (transportOk_afterWire (by simpa using h))]
  simp

/-- `readConversionResult` when its answers come (41 R144): chip-select is released in single mode only. -/
theorem readConversionResult_ok {s : State} (h : TransportOk 4 s) :
    readConversionResult s =
      .done (rawAt 0 s) (afterWire 4 (readXfers 0 s ++ singleRelease s) (levelAfterRead s) s.txnDepth s) := by
  rw [readConversionResult, memRead_ok h, andThen_done]
  cases hs : s.singleConversionMode <;> simp [releaseIfSingle, singleRelease, levelAfterRead, hs]

/-- `resetFrame` when its answers come (41 R145). -/
theorem resetFrame_ok {s : State} (h : TransportOk 5 s) :
    resetFrame s = .done () (afterWire 5 (resetFrameEvents 0 s) .released s.txnDepth s) := by
  rw [resetFrame, txnBegin_ok (h 0 (by omega)), andThen_done, csAssert_eq, afterWire_afterWire]
  simp only [Config.resetByteCount, xferTimes]
  rw [xfer_ok _ (by simp only [answerFails_afterWire]; exact h 1 (by omega)), andThen_done,
    xfer_ok _ (by simp only [answerFails_afterWire]; exact h 2 (by omega)), andThen_done,
    xfer_ok _ (by simp only [answerFails_afterWire]; exact h 3 (by omega)), andThen_done,
    xfer_ok _ (by simp only [answerFails_afterWire]; exact h 4 (by omega)), andThen_done]
  simp [resetFrameEvents]

/-! ### The channel file (10 R27) -/

/-- The active entry read after a write to it is what was written. -/
theorem activeEntry_setActiveEntry (c : ChannelConfig) (s : State) : activeEntry (setActiveEntry c s) = c := by
  simp [activeEntry, setActiveEntry]

/-- A write to the active entry leaves every other entry alone. -/
theorem entryOf_withEntry_of_ne {ch : Channel} {s : State} (h : ch ≠ s.activeChannel) (c : ChannelConfig) :
    entryOf ch (withEntry c s) = entryOf ch s := by
  have hne : s.activeChannel.toNat ≠ ch.toNat := fun e => h (BitVec.eq_of_toNat_eq e.symm)
  simp [entryOf, withEntry, Vector.getElem_set_ne, hne]

/-- The shadow after a setter of the active entry (42 R164): the entry, and the configuration word rebuilt from it. -/
theorem rebuildConfig_setActiveEntry (c : ChannelConfig) (s : State) :
    rebuildConfig (setActiveEntry c s) = withEntry c s := by
  rw [rebuildConfig, activeEntry_setActiveEntry]; rfl

/-! ### Sequences of frames -/

@[simp] theorem withChannel_csLine (ch : Channel) (s : State) : (withChannel ch s).csLine = s.csLine := rfl
@[simp] theorem withChannel_busFrequency (ch : Channel) (s : State) : (withChannel ch s).busFrequency = s.busFrequency := rfl
@[simp] theorem withChannel_vRef (ch : Channel) (s : State) : (withChannel ch s).vRef = s.vRef := rfl
@[simp] theorem withChannel_modeRegister (ch : Channel) (s : State) : (withChannel ch s).modeRegister = s.modeRegister := rfl
@[simp] theorem withChannel_configRegister (ch : Channel) (s : State) : (withChannel ch s).configRegister = configWordOf ch s := rfl
@[simp] theorem withChannel_activeChannel (ch : Channel) (s : State) : (withChannel ch s).activeChannel = ch := rfl
@[simp] theorem withChannel_singleConversionMode (ch : Channel) (s : State) : (withChannel ch s).singleConversionMode = s.singleConversionMode := rfl
@[simp] theorem withChannel_channels (ch : Channel) (s : State) : (withChannel ch s).channels = s.channels := rfl
@[simp] theorem withChannel_constructed (ch : Channel) (s : State) : (withChannel ch s).constructed = s.constructed := rfl
@[simp] theorem withChannel_fault (ch : Channel) (s : State) : (withChannel ch s).fault = s.fault := rfl
@[simp] theorem withChannel_response (ch : Channel) (s : State) : (withChannel ch s).response = s.response := rfl
@[simp] theorem withChannel_pending (ch : Channel) (s : State) : (withChannel ch s).pending = s.pending := rfl
@[simp] theorem withChannel_sideInputs (ch : Channel) (s : State) : (withChannel ch s).sideInputs = s.sideInputs := rfl
@[simp] theorem withChannel_transportMayFail (ch : Channel) (s : State) : (withChannel ch s).transportMayFail = s.transportMayFail := rfl
@[simp] theorem withChannel_csLevel (ch : Channel) (s : State) : (withChannel ch s).csLevel = s.csLevel := rfl
@[simp] theorem withChannel_txnDepth (ch : Channel) (s : State) : (withChannel ch s).txnDepth = s.txnDepth := rfl
@[simp] theorem withChannel_events (ch : Channel) (s : State) : (withChannel ch s).events = s.events := rfl
@[simp] theorem withChannel_answers (ch : Channel) (s : State) : (withChannel ch s).answers = s.answers := rfl
@[simp] theorem withChannel_drawCount (ch : Channel) (s : State) : (withChannel ch s).drawCount = s.drawCount := rfl

@[simp] theorem withChannel_afterWire (ch : Channel) (n : Nat) (es : List Event) (l : CsLevel) (d : Nat) (s : State) :
    withChannel ch (afterWire n es l d s) = afterWire n es l d (withChannel ch s) := rfl

@[simp] theorem configWordOf_withChannel (a b : Channel) (s : State) :
    configWordOf a (withChannel b s) = configWordOf a s := rfl

@[simp] theorem withChannel_withChannel (a b : Channel) (s : State) :
    withChannel a (withChannel b s) = withChannel a s := rfl

@[simp] theorem answerFails_withChannel (k : Nat) (ch : Channel) (s : State) :
    answerFails k (withChannel ch s) = answerFails k s := rfl

@[simp] theorem writeXfers_withChannel (cmd : Byte) (v : Word) (k : Nat) (ch : Channel) (s : State) :
    writeXfers cmd v k (withChannel ch s) = writeXfers cmd v k s := rfl

@[simp] theorem writeFrameEvents_withChannel (cmd : Byte) (v : Word) (k : Nat) (ch : Channel) (s : State) :
    writeFrameEvents cmd v k (withChannel ch s) = writeFrameEvents cmd v k s := rfl

@[simp] theorem readXfers_withChannel (k : Nat) (ch : Channel) (s : State) :
    readXfers k (withChannel ch s) = readXfers k s := rfl

@[simp] theorem byteAt_withChannel (k : Nat) (ch : Channel) (s : State) : byteAt k (withChannel ch s) = byteAt k s := rfl

@[simp] theorem singleRelease_withChannel (ch : Channel) (s : State) :
    singleRelease (withChannel ch s) = singleRelease s := rfl

@[simp] theorem rawAt_withChannel (k : Nat) (ch : Channel) (s : State) : rawAt k (withChannel ch s) = rawAt k s := rfl

/-- Selecting a channel when the frame's answers come (42 R162). -/
theorem selectChannel_ok {s : State} (ch : Channel) (h : TransportOk 4 s) :
    selectChannel ch s =
      .done () (afterWire 4 (writeFrameEvents 0x10 (configWordOf ch s) 0 s) .released s.txnDepth (withChannel ch s)) :=
  writeConfigRegister_ok (s := withChannel ch s) h

/-- A setter of the active entry when its answers come (10 R35). -/
theorem setter_ok {s : State} (c : ChannelConfig) (h : TransportOk 4 s) :
    rebuildAndWrite (setActiveEntry c s) =
      .done () (afterWire 4 (writeFrameEvents 0x10 (withEntry c s).configRegister 0 s) .released s.txnDepth
        (withEntry c s)) := by
  rw [rebuildAndWrite, rebuildConfig_setActiveEntry]
  exact writeConfigRegister_ok (s := withEntry c s) h

/-- A reading when all its twelve answers come (43 R194): the depth ends where it began, and the line is released in single mode
only. -/
theorem reading_ok {s : State} (ch : Channel) (h : TransportOk 12 s) :
    reading ch s =
      .done (rawAt 8 s) (afterWire 12 (readingEvents (configWordOf ch s) s)
        (if s.singleConversionMode then .released else .asserted) s.txnDepth (withChannel ch s)) := by
  have h1 : TransportOk (1 + 4) s := transportOk_mono h (by omega)
  have h5 : TransportOk (5 + 3) s := transportOk_mono h (by omega)
  rw [reading, txnBegin_ok (h 0 (by omega)), andThen_done, selectChannel_ok ch (transportOk_afterWire h1), andThen_done,
    withChannel_afterWire, afterWire_afterWire,
    startConversion_ok (transportOk_afterWire (s := withChannel ch s) h5), andThen_done, sleep_eq, afterWire_afterWire,
    afterWire_afterWire, readConversionResult_ok (transportOk_afterWire (s := withChannel ch s) h), andThen_done]
  cases hs : s.singleConversionMode <;>
    simp [singleRelease, levelAfterRead, hs, readingEvents, rateField, configWordOf, entryOf]

/-- One pass of the bootstrap loop when its eight answers come (43 R192). -/
theorem bootPass_ok {s : State} (ch : Channel) (h : TransportOk 8 s) :
    ((selectChannel ch s).andThen fun _ t => writeModeRegister t) =
      .done () (afterWire 8 (writeFrameEvents 0x10 (configWordOf ch s) 0 s ++ writeFrameEvents 0x08 s.modeRegister 4 s)
        .released s.txnDepth (withChannel ch s)) := by
  rw [selectChannel_ok ch (transportOk_mono h (by omega)), andThen_done,
    writeModeRegister_ok (transportOk_afterWire (s := withChannel ch s) (n := 4) h)]
  simp

/-- The events of the bootstrap loop over `l`, the first `TxnBegin` having the `k`-th answer. -/
def bootLoopEvents : List Channel → Nat → State → List Event
  | [], _, _ => []
  | i :: rest, k, s =>
    writeFrameEvents 0x10 (configWordOf i s) k s ++ writeFrameEvents 0x08 s.modeRegister (k + 4) s ++
      bootLoopEvents rest (k + 8) s

theorem bootLoopEvents_afterWire (l : List Channel) (k n : Nat) (es : List Event) (lv : CsLevel) (d : Nat) (s : State) :
    bootLoopEvents l k (afterWire n es lv d s) = bootLoopEvents l (n + k) s := by
  induction l generalizing k with
  | nil => rfl
  | cons i rest ih =>
    simp only [bootLoopEvents, writeFrameEvents_afterWire, afterWire_modeRegister, ih, Nat.add_assoc]
    rfl

theorem bootLoopEvents_withChannel (l : List Channel) (k : Nat) (c : Channel) (s : State) :
    bootLoopEvents l k (withChannel c s) = bootLoopEvents l k s := by
  induction l generalizing k with
  | nil => rfl
  | cons i rest ih => simp only [bootLoopEvents, ih]; rfl

/-- One pass of the loop, then the rest of it and the return to channel 0. -/
theorem bootChannels_cons (i : Channel) (rest : List Channel) (s : State) :
    ((bootChannels (i :: rest) s).andThen fun _ t => selectChannel 0 t) =
      ((selectChannel i s).andThen fun _ t => writeModeRegister t).andThen fun _ t =>
        (bootChannels rest t).andThen fun _ t => selectChannel 0 t := by
  simp only [bootChannels]
  cases selectChannel i s with
  | raised _ => rfl
  | done a t =>
    simp only [andThen_done]
    cases writeModeRegister t <;> rfl

/-- The bootstrap loop and the return to channel 0 when their answers come (43 R192). -/
theorem bootTail_ok (l : List Channel) {s : State} (h : TransportOk (8 * l.length + 4) s) :
    ((bootChannels l s).andThen fun _ t => selectChannel 0 t) =
      .done () (afterWire (8 * l.length + 4)
        (bootLoopEvents l 0 s ++ writeFrameEvents 0x10 (configWordOf 0 s) (8 * l.length) s)
        .released s.txnDepth (withChannel 0 s)) := by
  induction l generalizing s with
  | nil => simpa [bootChannels, bootLoopEvents] using selectChannel_ok 0 h
  | cons i rest ih =>
    have h8 : TransportOk 8 s := transportOk_mono h (by simp only [List.length_cons]; omega)
    have hr : TransportOk (8 + (8 * rest.length + 4)) s :=
      transportOk_mono h (by simp only [List.length_cons]; omega)
    rw [bootChannels_cons, bootPass_ok i h8, andThen_done, ih (transportOk_afterWire (s := withChannel i s) hr)]
    simp only [bootLoopEvents_afterWire, bootLoopEvents_withChannel, writeFrameEvents_afterWire,
      writeFrameEvents_withChannel, withChannel_afterWire, afterWire_afterWire, withChannel_withChannel,
      afterWire_txnDepth, bootLoopEvents, List.length_cons, List.append_assoc, Nat.zero_add, Nat.add_zero]
    have e1 : 8 + (8 * rest.length + 4) = 8 * (rest.length + 1) + 4 := by omega
    have e2 : 8 + 8 * rest.length = 8 * (rest.length + 1) := by omega
    rw [e1, e2]; rfl

theorem analogChannels_eq : analogChannels = [0, 1, 2, 3, 4, 5] := by decide

/-- The bootstrap's events as its reset frame, its wait and its loop. -/
theorem bootEvents_eq (s : State) :
    bootEvents s = resetFrameEvents 0 s ++ ([.sleep Config.initDelayMs] ++
      (bootLoopEvents analogChannels 5 s ++ writeFrameEvents 0x10 (configWordOf 0 s) 53 s)) := by
  simp only [analogChannels_eq, bootLoopEvents, bootEvents, bootPassEvents, List.append_assoc, List.append_nil]
  rfl

/-- The bootstrap when all its 57 answers come (43 R192). -/
theorem bootSequence_ok {s : State} (h : TransportOk 57 s) :
    bootSequence s = .done () (afterWire 57 (bootEvents s) .released s.txnDepth (withChannel 0 s)) := by
  rw [bootSequence, resetFrame_ok (transportOk_mono h (by omega)), andThen_done, sleep_eq, afterWire_afterWire,
    bootTail_ok analogChannels (transportOk_afterWire (n := 5 + 0) (k := 52) h)]
  simp only [analogChannels_eq, bootLoopEvents_afterWire, bootLoopEvents, bootEvents, bootPassEvents, List.length_cons,
    List.length_nil, writeFrameEvents_afterWire, afterWire_afterWire, afterWire_txnDepth, withChannel_afterWire,
    List.append_assoc, List.append_nil]
  rfl

/-! ### Failures (60 R235, R236) -/

@[simp] theorem draws_append (es fs : List Event) : draws (es ++ fs) = draws es + draws fs := by simp [draws]

@[simp] theorem levelAfter_append (l : CsLevel) (es fs : List Event) :
    levelAfter l (es ++ fs) = levelAfter (levelAfter l es) fs := by simp [levelAfter]

@[simp] theorem depthAfter_append (d : Nat) (es fs : List Event) :
    depthAfter d (es ++ fs) = depthAfter (depthAfter d es) fs := by simp [depthAfter]

@[simp] theorem draws_writeXfers (cmd : Byte) (v : Word) (k : Nat) (s : State) : draws (writeXfers cmd v k s) = 3 := rfl

@[simp] theorem draws_writeFrameEvents (cmd : Byte) (v : Word) (k : Nat) (s : State) :
    draws (writeFrameEvents cmd v k s) = 4 := rfl

@[simp] theorem draws_readXfers (k : Nat) (s : State) : draws (readXfers k s) = 4 := rfl

@[simp] theorem draws_resetFrameEvents (k : Nat) (s : State) : draws (resetFrameEvents k s) = 5 := rfl

@[simp] theorem levelAfter_writeFrameEvents (l : CsLevel) (cmd : Byte) (v : Word) (k : Nat) (s : State) :
    levelAfter l (writeFrameEvents cmd v k s) = .released := rfl

@[simp] theorem depthAfter_writeFrameEvents (d : Nat) (cmd : Byte) (v : Word) (k : Nat) (s : State) :
    depthAfter d (writeFrameEvents cmd v k s) = d := rfl

@[simp] theorem levelAfter_resetFrameEvents (l : CsLevel) (k : Nat) (s : State) :
    levelAfter l (resetFrameEvents k s) = .released := rfl

@[simp] theorem depthAfter_resetFrameEvents (d k : Nat) (s : State) : depthAfter d (resetFrameEvents k s) = d := rfl

/-- `f` raises, from `b`, at the first primitive of `full` whose answer is a failure. -/
def RaisesIn {α : Type} (full : List Event) (b : State) (f : Flow α) : Prop :=
  ∃ es p rest e, full = es ++ p :: rest ∧ failureOf p = some e ∧
    TransportOk (draws es) b ∧ answerFails (draws es) b = true ∧
    f = .raised (afterWire (draws es + 1) (es ++ [e]) (levelAfter b.csLevel es) (depthAfter b.txnDepth es) b)

/-- `f` runs through, from `b`, with the events `es`, one answer for each draw among them. -/
def RunsWith {α : Type} (es : List Event) (b : State) (f : Flow α) : Prop :=
  ∃ a, f = .done a (afterWire (draws es) es (levelAfter b.csLevel es) (depthAfter b.txnDepth es) b)

theorem raisesIn_andThen {α β : Type} {full : List Event} {b : State} {f : Flow α} (h : RaisesIn full b f)
    (later : List Event) (k : α → State → Flow β) : RaisesIn (full ++ later) b (f.andThen k) := by
  obtain ⟨es, p, rest, e, rfl, he, hok, hf, rfl⟩ := h
  exact ⟨es, p, rest ++ later, e, by simp, he, hok, hf, rfl⟩

/-- A failure after a clean run is a failure from before that run. -/
theorem raisesIn_after {α : Type} {b : State} {es full : List Event} {f : Flow α} (hok : TransportOk (draws es) b)
    (h : RaisesIn full (afterWire (draws es) es (levelAfter b.csLevel es) (depthAfter b.txnDepth es) b) f) :
    RaisesIn (es ++ full) b f := by
  obtain ⟨fs, p, rest, e, rfl, he, hok', hf, rfl⟩ := h
  refine ⟨es ++ fs, p, rest, e, by simp, he, ?_, by simpa using hf, by simp [Nat.add_assoc]⟩
  intro k hk
  by_cases hn : k < draws es
  · exact hok k hn
  · have := hok' (k - draws es) (by rw [draws_append] at hk; omega)
    rwa [answerFails_afterWire, show draws es + (k - draws es) = k by omega] at this

/-- If not every one of `n + m` answers comes, and the first `n` do, one of the `m` after them does not. -/
theorem not_transportOk_add {n m : Nat} {s : State} (h : ¬ TransportOk (n + m) s) (hn : TransportOk n s)
    (es : List Event) (l : CsLevel) (d : Nat) : ¬ TransportOk m (afterWire n es l d s) := by
  intro hm
  refine h fun k hk => ?_
  by_cases hkn : k < n
  · exact hn k hkn
  · have := hm (k - n) (by omega)
    rw [answerFails_afterWire] at this
    rwa [show n + (k - n) = k by omega] at this

/-- Answers that come, and the ones after them that come, are one run of answers that come. -/
theorem transportOk_add {n m : Nat} {s : State} {es : List Event} {l : CsLevel} {d : Nat} (hn : TransportOk n s)
    (hm : TransportOk m (afterWire n es l d s)) : TransportOk (n + m) s := by
  by_contra h
  exact not_transportOk_add h hn es l d hm

/-- If not all of `n` answers come, one of them is the first that does not. -/
theorem exists_first_failure {n : Nat} {s : State} (h : ¬ TransportOk n s) :
    ∃ m, TransportOk m s ∧ answerFails m s = true := by
  induction n with
  | zero => exact absurd (fun _ hk => absurd hk (by omega)) h
  | succ n ih =>
    by_cases hn : TransportOk n s
    · refine ⟨n, hn, ?_⟩
      cases hf : answerFails n s with
      | true => rfl
      | false => exact absurd (fun k hk => (Nat.lt_succ_iff_lt_or_eq.mp hk).elim (hn k) (fun e => e ▸ hf)) h
    · exact ih hn

theorem not_transportOk_one {s : State} (h : ¬ TransportOk 1 s) : answerFails 0 s = true := by
  cases hf : answerFails 0 s with
  | true => rfl
  | false => exact absurd (fun k hk => by obtain rfl : k = 0 := by omega
                                          exact hf) h

theorem transportOk_zero (s : State) : TransportOk 0 s := fun _ hk => absurd hk (by omega)

theorem txnBegin_raises {s : State} (h : ¬ TransportOk 1 s) : RaisesIn [.txnBegin] s (txnBegin s) :=
  ⟨[], .txnBegin, [], .txnFail, rfl, rfl, transportOk_zero s, not_transportOk_one h,
    txnBegin_fails (not_transportOk_one h)⟩

theorem xfer_raises {s : State} (out inp : Byte) (h : ¬ TransportOk 1 s) :
    RaisesIn [.xfer out inp] s (xfer out s) :=
  ⟨[], .xfer out inp, [], .xferFail out, rfl, rfl, transportOk_zero s, not_transportOk_one h,
    xfer_fails out (not_transportOk_one h)⟩

/-- A sequence raises in the events of its parts, in order. -/
theorem raises_andThen {α β : Type} {s : State} {es fs : List Event} {m : Nat} {f : Flow α} {k : α → State → Flow β}
    (hbad : ¬ TransportOk (draws es) s → RaisesIn es s f) (hok : TransportOk (draws es) s → RunsWith es s f)
    (hk : ∀ a t, t = afterWire (draws es) es (levelAfter s.csLevel es) (depthAfter s.txnDepth es) s →
      ¬ TransportOk m t → RaisesIn fs t (k a t))
    (h : ¬ TransportOk (draws es + m) s) : RaisesIn (es ++ fs) s (f.andThen k) := by
  by_cases hn : TransportOk (draws es) s
  · obtain ⟨a, rfl⟩ := hok hn
    exact raisesIn_after hn (hk a _ rfl (not_transportOk_add h hn _ _ _))
  · exact raisesIn_andThen (hbad hn) fs k

theorem xfer_andThen_raises {β : Type} {s : State} {m : Nat} {fs : List Event} (out : Byte) {k : Byte → State → Flow β}
    (hk : ∀ a t, t = afterWire 1 [.xfer out (byteAt 0 s)] s.csLevel s.txnDepth s → ¬ TransportOk m t →
      RaisesIn fs t (k a t))
    (h : ¬ TransportOk (1 + m) s) : RaisesIn (.xfer out (byteAt 0 s) :: fs) s ((xfer out s).andThen k) :=
  raises_andThen (es := [.xfer out (byteAt 0 s)]) (xfer_raises out _)
    (fun h1 => ⟨_, xfer_ok out (h1 0 (Nat.lt_succ_self 0))⟩) hk h

theorem txnBegin_andThen_raises {β : Type} {s : State} {m : Nat} {fs : List Event} {k : Unit → State → Flow β}
    (hk : ∀ a t, t = afterWire 1 [.txnBegin] s.csLevel (s.txnDepth + 1) s → ¬ TransportOk m t → RaisesIn fs t (k a t))
    (h : ¬ TransportOk (1 + m) s) : RaisesIn (.txnBegin :: fs) s ((txnBegin s).andThen k) :=
  raises_andThen (es := [.txnBegin]) txnBegin_raises
    (fun h1 => ⟨_, txnBegin_ok (h1 0 (Nat.lt_succ_self 0))⟩) hk h

/-- What follows an assertion of chip-select raises in its own events, after the assertion's. -/
theorem csAssert_raises {α : Type} {s : State} {n : Nat} {fs : List Event} {g : State → Flow α}
    (hg : ∀ t, t = afterWire 0 [.csLow] .asserted s.txnDepth s → ¬ TransportOk n t → RaisesIn fs t (g t))
    (h : ¬ TransportOk n s) : RaisesIn (.csLow :: fs) s (g (csAssert s)) := by
  rw [csAssert_eq]
  exact raisesIn_after (es := [.csLow]) (transportOk_zero s)
    (hg _ rfl (not_transportOk_add (n := 0) (by simpa using h) (transportOk_zero s) _ _ _))

theorem memWrite_raises {s : State} (cmd : Byte) (v : Word) (h : ¬ TransportOk 3 s) :
    RaisesIn (writeXfers cmd v 0 s) s (memWrite cmd v s) := by
  refine xfer_andThen_raises (m := 2) cmd (fun _ t ht h => ?_) h
  have e1 : byteAt 0 t = byteAt 1 s := by subst ht; simp
  rw [← e1]
  refine xfer_andThen_raises (m := 1) (highByte v) (fun _ u hu h => ?_) h
  have e2 : byteAt 0 u = byteAt 2 s := by subst hu; subst ht; simp
  rw [← e2]
  refine xfer_andThen_raises (m := 0) (lowByte v) (fun _ w _ h => absurd (transportOk_zero w) h) h

theorem memRead_raises {s : State} (h : ¬ TransportOk 4 s) : RaisesIn (readXfers 0 s) s (memRead 0x58 s) := by
  refine xfer_andThen_raises (m := 3) 0x58 (fun _ t ht h => ?_) h
  have e1 : byteAt 0 t = byteAt 1 s := by subst ht; simp
  rw [← e1]
  refine xfer_andThen_raises (m := 2) Config.dummyByte (fun _ u hu h => ?_) h
  have e2 : byteAt 0 u = byteAt 2 s := by subst hu; subst ht; simp
  rw [← e2]
  refine xfer_andThen_raises (m := 1) Config.dummyByte (fun _ w hw h => ?_) h
  have e3 : byteAt 0 w = byteAt 3 s := by subst hw; subst hu; subst ht; simp
  rw [← e3]
  refine xfer_andThen_raises (m := 0) Config.dummyByte (fun _ x _ h => absurd (transportOk_zero x) h) h

theorem writeConfigRegister_raises {s : State} (h : ¬ TransportOk 4 s) :
    RaisesIn (writeFrameEvents 0x10 s.configRegister 0 s) s (writeConfigRegister s) := by
  refine txnBegin_andThen_raises (m := 3) (fun _ t ht h => ?_) h
  refine csAssert_raises (g := fun u => (memWrite 0x10 t.configRegister u).andThen fun _ s => .done () (txnEnd (csRelease s)))
    (fs := writeXfers 0x10 s.configRegister 1 s ++ [.csHigh, .txnEnd]) (fun u hu h => ?_) h
  have e : writeXfers 0x10 s.configRegister 1 s = writeXfers 0x10 t.configRegister 0 u := by subst hu; subst ht; simp
  rw [e]
  exact raisesIn_andThen (memWrite_raises _ _ h) _ _

theorem writeModeRegister_raises {s : State} (h : ¬ TransportOk 4 s) :
    RaisesIn (writeFrameEvents 0x08 s.modeRegister 0 s) s (writeModeRegister s) := by
  refine txnBegin_andThen_raises (m := 3) (fun _ t ht h => ?_) h
  refine csAssert_raises (g := fun u => (memWrite 0x08 t.modeRegister u).andThen fun _ s => .done () (txnEnd (csRelease s)))
    (fs := writeXfers 0x08 s.modeRegister 1 s ++ [.csHigh, .txnEnd]) (fun u hu h => ?_) h
  have e : writeXfers 0x08 s.modeRegister 1 s = writeXfers 0x08 t.modeRegister 0 u := by subst hu; subst ht; simp
  rw [e]
  exact raisesIn_andThen (memWrite_raises _ _ h) _ _

theorem startConversion_raises {s : State} (h : ¬ TransportOk 3 s) :
    RaisesIn (.csLow :: writeXfers 0x08 s.modeRegister 0 s) s (startConversion s) := by
  refine csAssert_raises (g := memWrite 0x08 s.modeRegister) (fun t ht h => ?_) h
  have e : writeXfers 0x08 s.modeRegister 0 s = writeXfers 0x08 s.modeRegister 0 t := by subst ht; simp
  rw [e]
  exact memWrite_raises _ _ h

theorem readConversionResult_raises {s : State} (h : ¬ TransportOk 4 s) :
    RaisesIn (readXfers 0 s ++ singleRelease s) s (readConversionResult s) :=
  raisesIn_andThen (memRead_raises h) _ _

theorem resetFrame_raises {s : State} (h : ¬ TransportOk 5 s) :
    RaisesIn (resetFrameEvents 0 s) s (resetFrame s) := by
  refine txnBegin_andThen_raises (m := 4) (fun _ t ht h => ?_) h
  refine csAssert_raises
    (g := fun u => (xferTimes 0xFF Config.resetByteCount u).andThen fun _ s => .done () (txnEnd (csRelease s)))
    (fs := [.xfer 0xFF (byteAt 1 s), .xfer 0xFF (byteAt 2 s), .xfer 0xFF (byteAt 3 s), .xfer 0xFF (byteAt 4 s)] ++
      [.csHigh, .txnEnd]) (fun u hu h => ?_) h
  have e : ∀ k, byteAt k u = byteAt (1 + k) s := fun k => by subst hu; subst ht; simp
  refine raisesIn_andThen ?_ _ _
  rw [← e 0, ← e 1, ← e 2, ← e 3]
  refine xfer_andThen_raises (m := 3) 0xFF (fun _ v hv h => ?_) h
  rw [show byteAt 1 u = byteAt 0 v by subst hv; simp]
  refine xfer_andThen_raises (m := 2) 0xFF (fun _ w hw h => ?_) h
  rw [show byteAt 2 u = byteAt 0 w by subst hw; subst hv; simp]
  refine xfer_andThen_raises (m := 1) 0xFF (fun _ x hx h => ?_) h
  rw [show byteAt 3 u = byteAt 0 x by subst hx; subst hw; subst hv; simp]
  refine xfer_andThen_raises (m := 0) 0xFF (fun _ y _ h => absurd (transportOk_zero y) h) h

/-- A setter of the active entry has changed the shadow before its frame fails (60 R236). -/
theorem setter_raises {s : State} (c : ChannelConfig) (h : ¬ TransportOk 4 s) :
    RaisesIn (writeFrameEvents 0x10 (withEntry c s).configRegister 0 s) (withEntry c s)
      (rebuildAndWrite (setActiveEntry c s)) := by
  rw [rebuildAndWrite, rebuildConfig_setActiveEntry]
  exact writeConfigRegister_raises (s := withEntry c s) h

/-- Selecting a channel has changed the shadow before its frame fails (60 R236: "the shadow state is *not* rolled back"). -/
theorem selectChannel_raises {s : State} (ch : Channel) (h : ¬ TransportOk 4 s) :
    RaisesIn (writeFrameEvents 0x10 (configWordOf ch s) 0 s) (withChannel ch s) (selectChannel ch s) :=
  writeConfigRegister_raises (s := withChannel ch s) h

/-- A reading after its first `TxnBegin` (43 R194). -/
def readingTail (ch : Channel) (s : State) : Flow (BitVec 24) :=
  (selectChannel ch s).andThen fun _ s => (startConversion s).andThen fun _ s =>
    (readConversionResult (sleep (Config.settleDelayMs (rateField s.modeRegister)) s)).andThen fun raw s =>
      .done raw (txnEnd s)

theorem readingTail_raises {s : State} (ch : Channel) (h : ¬ TransportOk 11 s) :
    RaisesIn (writeFrameEvents 0x10 (configWordOf ch s) 0 s ++ ((.csLow :: writeXfers 0x08 s.modeRegister 4 s) ++
      ([.sleep (Config.settleDelayMs (rateField s.modeRegister))] ++ (readXfers 7 s ++ singleRelease s) ++ [.txnEnd])))
      (withChannel ch s) (readingTail ch s) := by
  refine raises_andThen (s := withChannel ch s) (m := 7) (fun h => selectChannel_raises ch h)
    (fun h => ⟨(), selectChannel_ok ch h⟩) (fun _ t ht h => ?_) h
  have e1 : writeXfers 0x08 s.modeRegister 4 s = writeXfers 0x08 t.modeRegister 0 t := by subst ht; simp
  have e2 : readXfers 7 s = readXfers 3 t := by subst ht; simp
  have e3 : s.modeRegister = t.modeRegister := by subst ht; simp
  have e4 : singleRelease s = singleRelease t := by subst ht; simp
  rw [e1, e2, e3, e4]
  refine raises_andThen (m := 4) (fun h => startConversion_raises h) (fun h => ⟨(), startConversion_ok h⟩)
    (fun _ u hu h => ?_) h
  have e5 : readXfers 3 t = readXfers 0 u := by subst hu; rw [readXfers_afterWire]; rfl
  have e6 : singleRelease t = singleRelease u := by subst hu; simp
  have e7 : t.modeRegister = u.modeRegister := by subst hu; simp
  rw [e5, e6, e7, sleep_eq]
  refine raisesIn_andThen (raisesIn_after (es := [.sleep (Config.settleDelayMs (rateField u.modeRegister))])
    (transportOk_zero u) ?_) [.txnEnd] _
  have hu4 := not_transportOk_add (n := 0) (m := 4) h (transportOk_zero u)
    [.sleep (Config.settleDelayMs (rateField u.modeRegister))] u.csLevel u.txnDepth
  simpa [draws, failureOf, levelAfter, levelStep, depthAfter, depthStep] using readConversionResult_raises hu4

/-- A failing reading fails at its first `TxnBegin`, with the shadow as before, or later, with the channel selected
(43 R194, 60 R236). -/
theorem reading_raises {s : State} (ch : Channel) (h : ¬ TransportOk 12 s) :
    RaisesIn (readingEvents (configWordOf ch s) s) (if answerFails 0 s then s else withChannel ch s) (reading ch s) := by
  have e : reading ch s = (txnBegin s).andThen fun _ t => readingTail ch t := rfl
  have ev : readingEvents (configWordOf ch s) s =
      [.txnBegin] ++ (writeFrameEvents 0x10 (configWordOf ch s) 1 s ++ ((.csLow :: writeXfers 0x08 s.modeRegister 5 s) ++
      ([.sleep (Config.settleDelayMs (rateField s.modeRegister))] ++ (readXfers 8 s ++ singleRelease s) ++ [.txnEnd]))) := by
    simp [readingEvents, rateField]
  rw [e, ev]
  cases h0 : answerFails 0 s with
  | true =>
    exact raisesIn_andThen (txnBegin_raises fun h1 => Bool.noConfusion ((h1 0 (by omega)).symm.trans h0)) _ _
  | false =>
    rw [txnBegin_ok h0, andThen_done]
    have h1 : TransportOk 1 s := fun k hk => by obtain rfl : k = 0 := by omega
                                                exact h0
    have ht := readingTail_raises ch (not_transportOk_add (m := 11) h h1 [.txnBegin] s.csLevel (s.txnDepth + 1))
    rw [withChannel_afterWire] at ht
    simp only [writeFrameEvents_afterWire, writeXfers_afterWire, readXfers_afterWire, afterWire_modeRegister,
      singleRelease_afterWire] at ht
    exact raisesIn_after (b := withChannel ch s) (es := [.txnBegin]) h1 ht

theorem raises_select_mode {s : State} (i : Channel) (h : ¬ TransportOk 8 s) :
    RaisesIn (writeFrameEvents 0x10 (configWordOf i s) 0 s ++ writeFrameEvents 0x08 s.modeRegister 4 s)
      (withChannel i s) ((selectChannel i s).andThen fun _ t => writeModeRegister t) := by
  refine raises_andThen (s := withChannel i s) (m := 4) (fun h => selectChannel_raises i h)
    (fun h => ⟨(), selectChannel_ok i h⟩) (fun _ t ht h => ?_) h
  have e1 : writeFrameEvents 0x08 s.modeRegister 4 s = writeFrameEvents 0x08 t.modeRegister 0 t := by subst ht; simp
  rw [e1]
  exact writeModeRegister_raises h

/-- A failing bootstrap loop fails in one pass of it, with that pass's channel selected, or in the return to channel 0. -/
theorem bootTail_raises (l : List Channel) {s : State} (h : ¬ TransportOk (8 * l.length + 4) s) :
    ∃ j, j ≤ l.length ∧ TransportOk (8 * j) s ∧ (j < l.length → ¬ TransportOk (8 * j + 8) s) ∧
      RaisesIn (bootLoopEvents l 0 s ++ writeFrameEvents 0x10 (configWordOf 0 s) (8 * l.length) s)
        (withChannel ((l[j]?).getD 0) s) ((bootChannels l s).andThen fun _ t => selectChannel 0 t) := by
  induction l generalizing s with
  | nil =>
    exact ⟨0, le_refl _, transportOk_zero s, fun h0 => absurd h0 (by simp), selectChannel_raises 0 (by simpa using h)⟩
  | cons i rest ih =>
    rw [bootChannels_cons]
    by_cases h8 : TransportOk 8 s
    swap
    · refine ⟨0, by simp, transportOk_zero s, fun _ => h8, ?_⟩
      simp only [bootLoopEvents, List.append_assoc]
      rw [← List.append_assoc (writeFrameEvents 0x10 _ _ _)]
      exact raisesIn_andThen (raises_select_mode i h8) _ _
    rw [bootPass_ok i h8, andThen_done]
    obtain ⟨j, hj, hok, hbad, hc⟩ := ih (s := afterWire 8 (writeFrameEvents 0x10 (configWordOf i s) 0 s ++
      writeFrameEvents 0x08 s.modeRegister 4 s) .released s.txnDepth (withChannel i s))
      (not_transportOk_add (s := withChannel i s) (m := 8 * rest.length + 4) (by
      intro h'; exact h (transportOk_mono h' (by simp only [List.length_cons]; omega))) h8 _ _ _)
    refine ⟨j + 1, by simpa using hj, transportOk_mono (transportOk_add (s := withChannel i s) h8 hok) (by omega),
      fun hl ho => hbad (by simpa using hl)
        (transportOk_afterWire (s := withChannel i s) (transportOk_mono ho (by omega))), ?_⟩
    have hc' := raisesIn_after (b := withChannel ((rest[j]?).getD 0) s)
      (es := writeFrameEvents 0x10 (configWordOf i s) 0 s ++ writeFrameEvents 0x08 s.modeRegister 4 s) h8 (by simpa using hc)
    simpa [bootLoopEvents, bootLoopEvents_afterWire, bootLoopEvents_withChannel, Nat.mul_add, Nat.add_comm] using hc'

/-- The answer at which a sequence fails is the first failure: it lies in every span that ends after a failure. -/
theorem first_failure_lt {n m : Nat} {s : State} (hok : TransportOk n s) (hm : ¬ TransportOk m s) : n < m := by
  by_contra hn
  exact hm (transportOk_mono hok (by omega))

/-- The answer at which a sequence fails comes after every span without failure. -/
theorem first_failure_ge {n m : Nat} {s : State} (hf : answerFails n s = true) (hm : TransportOk m s) : m ≤ n := by
  by_contra hn
  exact Bool.noConfusion ((hm n (by omega)).symm.trans hf)

/-- A failing bootstrap fails with the shadow that the number of the failing answer says (43 R192, 60 R236). -/
theorem bootSequence_raises {s : State} {n : Nat} (h : ¬ TransportOk 57 s) (hok : TransportOk n s)
    (hf : answerFails n s = true) : RaisesIn (bootEvents s) (bootShadow n s) (bootSequence s) := by
  rw [bootEvents_eq]
  by_cases h5 : TransportOk 5 s
  swap
  · rw [bootShadow, if_pos (first_failure_lt hok h5)]
    exact raisesIn_andThen (resetFrame_raises h5) _ _
  rw [bootSequence, resetFrame_ok h5, andThen_done, sleep_eq, afterWire_afterWire]
  obtain ⟨j, hj, hjok, hjbad, hc⟩ := bootTail_raises analogChannels
    (not_transportOk_add (n := 5) (m := 52) h h5 (resetFrameEvents 0 s ++ [.sleep Config.initDelayMs]) .released s.txnDepth)
  have hj6 : j ≤ 6 := hj
  have hge : 5 + 8 * j ≤ n := first_failure_ge hf (transportOk_add h5 hjok)
  have hlt : j < 6 → n < 5 + (8 * j + 8) := fun hl => first_failure_lt hok fun ho => hjbad hl (transportOk_afterWire ho)
  have hs : bootShadow n s = withChannel ((analogChannels[j]?).getD 0) s := by
    rw [bootShadow, if_neg (by omega), analogChannels_eq]
    rcases Nat.lt_or_ge j 6 with hl | hl
    · have := hlt hl
      rw [if_pos (by omega), show (n - 5) / 8 = j by omega]
      interval_cases j <;> rfl
    · obtain rfl : j = 6 := by omega
      rw [if_neg (by omega)]
      rfl
  rw [hs]
  have ev : draws (resetFrameEvents 0 s ++ [.sleep Config.initDelayMs]) = 5 := rfl
  have hc' := raisesIn_after (b := withChannel ((analogChannels[j]?).getD 0) s)
    (es := resetFrameEvents 0 s ++ [.sleep Config.initDelayMs])
    (by rw [ev]; exact h5) (show RaisesIn _ (afterWire 5 (resetFrameEvents 0 s ++ [.sleep Config.initDelayMs]) .released
      s.txnDepth (withChannel ((analogChannels[j]?).getD 0) s)) _ from hc)
  simpa [bootLoopEvents_afterWire, show analogChannels.length = 6 from rfl] using hc'

/-! ### How an operation ends -/

theorem closeBrackets_eq (n : Nat) (s : State) :
    closeBrackets n s = afterWire 0 (List.replicate n .txnEnd) s.csLevel (s.txnDepth - n) s := by
  induction n generalizing s with
  | zero => simp [closeBrackets, afterWire]
  | succ n ih =>
    rw [closeBrackets, txnEnd_eq, ih, afterWire_afterWire]
    simp only [List.replicate_succ, List.singleton_append, afterWire_csLevel, afterWire_txnDepth]
    congr 1
    omega

/-- The abort procedure (60 R236): the line released, no bracket open, `fault` set, the shadow as it was. -/
theorem abortProcedure_eq (s : State) :
    abortProcedure s = setFault (afterWire 0 (abortEvents s.csLevel s.txnDepth) .released 0 s) := by
  unfold abortProcedure releaseIfAsserted
  cases h : s.csLevel <;> simp [closeBrackets_eq, abortEvents, h]

/-- Every status but `TransportFailure` only answers the host (60 R240). -/
theorem raise_precise {status : Status} (h : status ≠ .transportFailure) (info : Option Byte) (s : State) :
    raise status info s = respond ⟨status, info, .nothing⟩ s := by simp [raise, h]

/-- A failed operation (60 R236). -/
theorem finish_raises {α : Type} {full : List Event} {b : State} {f : Flow α} (h : RaisesIn full b f)
    (result : α → Result) : ∃ es, Aborted full es b (finish result f) := by
  obtain ⟨es, p, rest, e, hfull, he, hok, hf, rfl⟩ := h
  refine ⟨es, p, rest, e, hfull, he, hok, hf, ?_⟩
  simp [raise, abortProcedure_eq, afterWire, setFault, respond]

end Sys2Proof.Laws
end

