-- ==== Sys2Proof/Laws/Exec.lean ====
section
/-! SUPPORT. Everything an instruction can do, said once for all of them: it answers quietly, or its frames run through, or they fail
on the way. Rules about the whole machine are read off these lemmas, with no instruction unfolded. -/
namespace Sys2Proof.Laws
open Sys2Proof.Machine

/-- What an instruction other than `construct` does to a constructed block. -/
def body (i : Instr) (s : State) : State :=
  match i with
  | .construct => s
  | .initializeDevice => finish noResult (bootSequence s)
  | .reset | .resetFrame => finish noResult (resetFrame s)
  | .setActiveChannel ch =>
    if channelValid ch then finish noResult (selectChannel (channelIndex ch) s) else returnOk .nothing s
  | .setGain g => finish noResult (rebuildAndWrite (setActiveEntry { activeEntry s with gain := g } s))
  | .setBipolar _ => finish noResult (rebuildAndWrite (setActiveEntry { activeEntry s with isUnipolar := false } s))
  | .setPolarity b =>
    finish noResult (rebuildAndWrite (setActiveEntry { activeEntry s with isUnipolar := unipolarBit b } s))
  | .setInputBuffer _ => returnOk .nothing s
  | .setUpdateRate r => finish noResult (writeModeRegister { s with modeRegister := withRate s.modeRegister r })
  | .setConversionMode b =>
    finish noResult (writeModeRegister (setSingleFlag b { s with modeRegister := withConvMode s.modeRegister b }))
  | .getReadingRaw ch =>
    if channelValid ch then finish (fun raw => .raw (widenRaw raw)) (reading (channelIndex ch) s)
    else raise .invalidChannel (some ch) s
  | .getReadingVolts ch =>
    if channelValid ch then
      finish .volts ((reading (channelIndex ch) s).andThen fun raw s =>
        convert (entryOf (channelIndex ch) s) (widenRaw raw) s)
    else raise .invalidChannel (some ch) s
  | .writeConfigRegister => finish noResult (writeConfigRegister s)
  | .writeModeRegister => finish noResult (writeModeRegister s)
  | .startConversion => finish noResult (startConversion s)
  | .readConversionResult => finish .raw24 (readConversionResult s)

/-- Every instruction but `construct` is its body behind the one check on `constructed`. -/
theorem exec_eq_operation {i : Instr} (h : i ≠ .construct) (s : State) : exec i s = operation s (body i) := by
  cases i <;> first | exact absurd rfl h | rfl

/-- What an instruction that does not go on to the wire answers (60 R232, R233, 42 R170). -/
def quietResponse : Instr → Response
  | .getReadingRaw ch | .getReadingVolts ch => ⟨.invalidChannel, some ch, .nothing⟩
  | .construct | .initializeDevice | .reset | .setActiveChannel _ | .setGain _ | .setBipolar _ | .setInputBuffer _
  | .setUpdateRate _ | .setConversionMode _ | .setPolarity _ | .writeConfigRegister | .writeModeRegister
  | .startConversion | .readConversionResult | .resetFrame => Response.done

/-- An instruction that does not go on to the wire only answers. -/
theorem body_quiet {i : Instr} (hi : i ≠ .construct) (h : reachesWire i = false) (s : State) :
    body i s = respond (quietResponse i) s := by
  cases i <;> first
    | exact absurd rfl hi
    | exact Bool.noConfusion h
    | rfl
    | (have hv : channelValid _ = false := h
       simp only [body, hv]
       rfl)

/-- The line after a reading's events (43 R194). -/
theorem levelAfter_readingEvents (l : CsLevel) (w : Word) (s : State) :
    levelAfter l (readingEvents w s) = if s.singleConversionMode then .released else .asserted := by
  cases h : s.singleConversionMode <;> simp [readingEvents, singleRelease, h] <;> rfl

/-- The line after the bootstrap's events (43 R192). -/
theorem levelAfter_bootEvents (l : CsLevel) (s : State) : levelAfter l (bootEvents s) = .released := by
  simp only [bootEvents, levelAfter_append, levelAfter_writeFrameEvents]

/-- The line after the read frame's events (41 R144). -/
theorem levelAfter_readXfers (s : State) :
    levelAfter s.csLevel (readXfers 0 s ++ singleRelease s) = levelAfterRead s := by
  cases h : s.singleConversionMode <;> simp [levelAfterRead, singleRelease, h] <;> rfl

/-- A sequence that ran through, as an operation without free voltage. -/
theorem finish_ran {α : Type} {n d : Nat} {es : List Event} {l : CsLevel} {f : Flow α} {a : α} (s b : State)
    (hf : f = .done a (afterWire n es l d b)) (hd : b.drawCount = s.drawCount) (ha : b.answers = s.answers)
    (result : α → Result) :
    ∃ (r : Result) (k : Nat), finish result f = respond ⟨.ok, none, r⟩
      { afterWire n es l d b with drawCount := s.drawCount + (n - s.answers.length) + k } :=
  ⟨result a, 0, by rw [hf, ← hd, ← ha]; rfl⟩

/-- An instruction whose answers come runs through: its events, its shadow, its response, and nothing else (`k` counts the free
voltages it took). -/
theorem body_ok {i : Instr} {s : State} (hi : i ≠ .construct) (hq : reachesWire i = true)
    (h : TransportOk (answersNeeded i) s) :
    ∃ (r : Result) (k : Nat), body i s = respond ⟨.ok, none, r⟩
      { afterWire (answersNeeded i) (wireEvents i s) (levelAfter s.csLevel (wireEvents i s)) s.txnDepth (shadowAfter i s)
        with drawCount := s.drawCount + (answersNeeded i - s.answers.length) + k } := by
  cases i with
  | construct => exact absurd rfl hi
  | setInputBuffer b => exact Bool.noConfusion hq
  | initializeDevice =>
    simp only [wireEvents, levelAfter_bootEvents]
    exact finish_ran s (withChannel 0 s) (bootSequence_ok h) rfl rfl noResult
  | reset | resetFrame => exact finish_ran s s (resetFrame_ok h) rfl rfl noResult
  | setActiveChannel ch =>
    have hv : channelValid ch = true := hq
    simp only [body, hv, if_true]
    exact finish_ran s (withChannel (channelIndex ch) s) (selectChannel_ok _ h) rfl rfl noResult
  | setGain g =>
    exact finish_ran s _ (setter_ok { activeEntry s with gain := g } h) rfl rfl noResult
  | setBipolar b =>
    exact finish_ran s _ (setter_ok { activeEntry s with isUnipolar := false } h) rfl rfl noResult
  | setPolarity b =>
    exact finish_ran s _ (setter_ok { activeEntry s with isUnipolar := !b } h) rfl rfl noResult
  | setUpdateRate r =>
    exact finish_ran s _ (writeModeRegister_ok (s := shadowAfter (.setUpdateRate r) s) h) rfl rfl noResult
  | setConversionMode b =>
    exact finish_ran s _ (writeModeRegister_ok (s := shadowAfter (.setConversionMode b) s) h) rfl rfl noResult
  | writeConfigRegister => exact finish_ran s s (writeConfigRegister_ok h) rfl rfl noResult
  | writeModeRegister => exact finish_ran s s (writeModeRegister_ok h) rfl rfl noResult
  | startConversion => exact finish_ran s s (startConversion_ok h) rfl rfl noResult
  | readConversionResult =>
    simp only [wireEvents, levelAfter_readXfers]
    exact finish_ran s s (readConversionResult_ok h) rfl rfl .raw24
  | getReadingRaw ch =>
    have hv : channelValid ch = true := hq
    simp only [body, hv, if_true, wireEvents, levelAfter_readingEvents]
    exact finish_ran s (withChannel (channelIndex ch) s) (reading_ok _ h) rfl rfl _
  | getReadingVolts ch =>
    have hv : channelValid ch = true := hq
    simp only [body, hv, if_true, wireEvents, levelAfter_readingEvents]
    rw [reading_ok _ h, andThen_done, convert]
    by_cases hd : voltsDefined s.vRef (entryOf (channelIndex ch) s).gain = true
    · exact ⟨_, 0, by rw [if_pos (by exact hd)]; rfl⟩
    · exact ⟨_, 1, by rw [if_neg (by exact hd)]; rfl⟩

/-- An instruction that fails at a shadow which the number of the failing answer gives is aborted at it. -/
theorem aborted_of_raises {α : Type} {i : Instr} {s b : State} {full : List Event} {f : Flow α} (h : RaisesIn full b f)
    (result : α → Result)
    (hb : ∀ n, TransportOk n b → answerFails n b = true → shadowAtFailure i n s = b) :
    ∃ es, Aborted full es (shadowAtFailure i (draws es) s) (finish result f) := by
  obtain ⟨es, ha⟩ := finish_raises h result
  have ⟨_, _, _, _, _, hok, hf, _⟩ := ha
  exact ⟨es, by rw [hb _ hok hf]; exact ha⟩

/-- A reading fails at its first answer with the shadow as it was, and later with the channel selected (43 R194). -/
theorem reading_shadowAtFailure {s : State} (ch : Channel) (n : Nat)
    (hok : TransportOk n (if answerFails 0 s then s else withChannel ch s))
    (hf : answerFails n (if answerFails 0 s then s else withChannel ch s) = true) :
    (if n = 0 then s else withChannel ch s) = if answerFails 0 s then s else withChannel ch s := by
  cases h0 : answerFails 0 s with
  | true =>
    rw [h0] at hok
    have hn : n = 0 := by
      by_contra hn
      exact Bool.noConfusion ((hok 0 (by omega)).symm.trans h0)
    rw [if_pos hn]; rfl
  | false =>
    rw [h0] at hf
    have hn : n ≠ 0 := by
      rintro rfl
      exact Bool.noConfusion (h0.symm.trans hf)
    rw [if_neg hn]; rfl

/-- An instruction whose answers do not all come is aborted, with the shadow it had at the first that does not (60 R236). -/
theorem body_fails {i : Instr} {s : State} (hi : i ≠ .construct) (hq : reachesWire i = true)
    (h : ¬ TransportOk (answersNeeded i) s) :
    ∃ es, Aborted (wireEvents i s) es (shadowAtFailure i (draws es) s) (body i s) := by
  cases i with
  | construct => exact absurd rfl hi
  | setInputBuffer b => exact Bool.noConfusion hq
  | initializeDevice =>
    obtain ⟨n, hok, hf⟩ := exists_first_failure h
    refine aborted_of_raises (bootSequence_raises h hok hf) noResult fun m hm hmf => ?_
    have hs : ∀ k, answerFails k (bootShadow n s) = answerFails k s := fun k => by
      unfold bootShadow; split <;> [rfl; split <;> rfl]
    rw [show m = n from Nat.le_antisymm
      (first_failure_ge hf fun k hk => by rw [← hs]; exact hm k hk) (first_failure_ge (by rw [← hs]; exact hmf) hok)]
    rfl
  | reset | resetFrame => exact aborted_of_raises (resetFrame_raises h) noResult fun _ _ _ => rfl
  | setActiveChannel ch =>
    have hv : channelValid ch = true := hq
    simp only [body, hv, if_true]
    exact aborted_of_raises (selectChannel_raises _ h) noResult fun _ _ _ => rfl
  | setGain g => exact aborted_of_raises (setter_raises { activeEntry s with gain := g } h) noResult fun _ _ _ => rfl
  | setBipolar b =>
    exact aborted_of_raises (setter_raises { activeEntry s with isUnipolar := false } h) noResult fun _ _ _ => rfl
  | setPolarity b =>
    exact aborted_of_raises (setter_raises { activeEntry s with isUnipolar := !b } h) noResult fun _ _ _ => rfl
  | setUpdateRate r =>
    exact aborted_of_raises (writeModeRegister_raises (s := shadowAfter (.setUpdateRate r) s) h) noResult fun _ _ _ => rfl
  | setConversionMode b =>
    exact aborted_of_raises (writeModeRegister_raises (s := shadowAfter (.setConversionMode b) s) h) noResult
      fun _ _ _ => rfl
  | writeConfigRegister => exact aborted_of_raises (writeConfigRegister_raises h) noResult fun _ _ _ => rfl
  | writeModeRegister => exact aborted_of_raises (writeModeRegister_raises h) noResult fun _ _ _ => rfl
  | startConversion => exact aborted_of_raises (startConversion_raises h) noResult fun _ _ _ => rfl
  | readConversionResult => exact aborted_of_raises (readConversionResult_raises h) .raw24 fun _ _ _ => rfl
  | getReadingRaw ch =>
    have hv : channelValid ch = true := hq
    simp only [body, hv, if_true]
    exact aborted_of_raises (reading_raises (channelIndex ch) h) _ (reading_shadowAtFailure (channelIndex ch))
  | getReadingVolts ch =>
    have hv : channelValid ch = true := hq
    simp only [body, hv, if_true]
    have hr := raisesIn_andThen (reading_raises (channelIndex ch) h) []
      fun raw t => convert (entryOf (channelIndex ch) t) (widenRaw raw) t
    rw [List.append_nil] at hr
    exact aborted_of_raises hr .volts (reading_shadowAtFailure (channelIndex ch))

/-- What holds of the shadow an instruction leaves, of the one it found and of every selection of a channel holds of whatever a
failing instruction leaves. -/
theorem shadowAtFailure_elim {i : Instr} {s : State} (P : State → Prop) (n : Nat) (hafter : P (shadowAfter i s))
    (hbefore : P s) (hsel : i = .initializeDevice → ∀ ch, P (withChannel ch s)) : P (shadowAtFailure i n s) := by
  cases i with
  | initializeDevice =>
    simp only [shadowAtFailure, bootShadow]
    split
    · exact hbefore
    · split <;> exact hsel rfl _
  | getReadingRaw ch | getReadingVolts ch =>
    simp only [shadowAtFailure]
    split
    · exact hbefore
    · exact hafter
  | _ => exact hafter

/-- The four ways from `s` to an answer `t` of the instruction `i`. -/
inductive Run (i : Instr) (s t : State) : Prop
  /-- It is `construct`. -/
  | constructs (hi : i = .construct) (h : execConstruct s = .next t)
  /-- It only answers: refused before `construct`, or with no wire to reach. -/
  | answers (hi : i ≠ .construct) (r : Response) (h : t = respond r s)
      (hr : (s.constructed = false ∧ r = ⟨.notConstructed, none, .nothing⟩) ∨
        (s.constructed = true ∧ reachesWire i = false ∧ r = quietResponse i))
  /-- Its frames run through. -/
  | runs (hi : i ≠ .construct) (hc : s.constructed = true) (hw : reachesWire i = true) (ht : TransportOk (answersNeeded i) s)
      (r : Result) (k : Nat)
      (h : t = respond ⟨.ok, none, r⟩
        { afterWire (answersNeeded i) (wireEvents i s) (levelAfter s.csLevel (wireEvents i s)) s.txnDepth (shadowAfter i s)
          with drawCount := s.drawCount + (answersNeeded i - s.answers.length) + k })
  /-- It fails on the way. -/
  | fails (hi : i ≠ .construct) (hc : s.constructed = true) (hw : reachesWire i = true)
      (ht : ¬ TransportOk (answersNeeded i) s) (es : List Event)
      (h : Aborted (wireEvents i s) es (shadowAtFailure i (draws es) s) t)

/-- Every answer of an instruction comes in one of the four ways. -/
theorem run_of_exec {i : Instr} {s t : State} (h : exec i s = .next t) : Run i s t := by
  by_cases hi : i = .construct
  · subst hi
    exact .constructs rfl h
  rw [exec_eq_operation hi] at h
  cases hc : s.constructed with
  | false =>
    rw [operation_of_not_constructed hc] at h
    cases h
    exact .answers hi _ rfl (.inl ⟨hc, rfl⟩)
  | true =>
    rw [operation_of_constructed hc] at h
    cases h
    cases hw : reachesWire i with
    | false => exact .answers hi _ (body_quiet hi hw s) (.inr ⟨hc, hw, rfl⟩)
    | true =>
      by_cases ht : TransportOk (answersNeeded i) s
      · obtain ⟨r, k, hb⟩ := body_ok hi hw ht
        exact .runs hi hc hw ht r k hb
      · obtain ⟨es, ha⟩ := body_fails hi hw ht
        exact .fails hi hc hw ht es ha

end Sys2Proof.Laws
end

