-- ==== Sys2Proof/Machine/Binary64.lean ====
section
/-! DEFINITION. The reference instantiation of `Numerics` of spec/44_calibration_converter.md R215: IEEE 754 binary64, round to nearest
even. It is general knowledge and not normative (93 G3), and no step uses it (log 17). -/
namespace Sys2Proof.Machine

/-- A binary64 value: a finite number (its zero is +0), -0, an infinity with its sign, or a not-a-number (all of them alike). -/
inductive Double where
  | finite (q : Rat)
  | negZero
  | infinity (neg : Bool)
  | nan
  deriving DecidableEq, Repr, Inhabited

/-- The sign bit. -/
def Double.isNegative : Double → Bool
  | .finite q => decide (q < 0)
  | .negZero => true
  | .infinity neg => neg
  | .nan => false

/-- The number a finite value stands for. -/
def Double.value : Double → Option Rat
  | .finite q => some q
  | .negZero => some 0
  | .infinity _ => none
  | .nan => none

/-- The zero of a sign. -/
def signedZero (neg : Bool) : Double := if neg then .negZero else .finite 0

/-- `2^e` as a rational, for any integer `e`. -/
def twoPow (e : Int) : Rat :=
  match e with
  | .ofNat n => ((2 ^ n : Nat) : Rat)
  | .negSucc n => mkRat 1 (2 ^ (n + 1))

/-- The exponent of the leading bit of `n/d`, for positive `n` and `d`. -/
def leadingExponent (n d : Nat) : Int :=
  let e : Int := (n.log2 : Int) - (d.log2 : Int)
  if 0 ≤ e then (if d * 2 ^ e.toNat ≤ n then e else e - 1)
  else (if d ≤ n * 2 ^ (-e).toNat then e else e - 1)

/-- The nearest natural number to `n/d`, a tie going to the even one. -/
def roundHalfEven (n d : Nat) : Nat :=
  let k := n / d
  let r := n % d
  if d < 2 * r then k + 1 else if 2 * r = d then k + k % 2 else k

/-- The number with 53 significant bits, or a multiple of `2^-1074` if it is subnormal, nearest to `q`, ties to even; its exponent is not
yet bounded above. -/
def nearest64 (q : Rat) : Rat :=
  let n := q.num.natAbs
  let u : Int := max (leadingExponent n q.den - 52) (-1074)
  let k := if 0 ≤ u then roundHalfEven n (q.den * 2 ^ u.toNat) else roundHalfEven (n * 2 ^ (-u).toNat) q.den
  if n = 0 then 0 else if 0 ≤ q.num then (k : Rat) * twoPow u else -((k : Rat) * twoPow u)

/-- The binary64 value of an operation whose exact result is `q`: rounded to nearest even, an infinity where that is beyond the largest
finite value, and the zero of the sign `neg` where it is zero. -/
def round64 (neg : Bool) (q : Rat) : Double :=
  let r := nearest64 q
  if r = 0 then signedZero neg
  else if twoPow 1024 ≤ r then .infinity false
  else if r ≤ -twoPow 1024 then .infinity true
  else .finite r

/-- binary64 multiplication. -/
def mul64 (a b : Double) : Double :=
  let neg := a.isNegative != b.isNegative
  if a = .nan ∨ b = .nan then .nan
  else match a.value, b.value with
    | some p, some q => round64 neg (p * q)
    | some p, none => if p = 0 then .nan else .infinity neg
    | none, some q => if q = 0 then .nan else .infinity neg
    | none, none => .infinity neg

/-- binary64 division. -/
def div64 (a b : Double) : Double :=
  let neg := a.isNegative != b.isNegative
  if a = .nan ∨ b = .nan then .nan
  else match a.value, b.value with
    | some p, some q => if q = 0 then (if p = 0 then .nan else .infinity neg) else round64 neg (p / q)
    | some _, none => signedZero neg
    | none, some _ => .infinity neg
    | none, none => .nan

/-- binary64 subtraction: equal operands give +0, except `-0 - +0`. -/
def sub64 (a b : Double) : Double :=
  if a = .nan ∨ b = .nan then .nan
  else match a.value, b.value with
    | some p, some q => round64 (decide (p < q) || (a == .negZero && b == .finite 0)) (p - q)
    | some _, none => .infinity (!b.isNegative)
    | none, some _ => a
    | none, none => if a = b then .nan else a

/-- `Numerics` = IEEE 754 binary64, round to nearest even, `ofNat` exact (44 R215; every natural number below 2^53 is a binary64
value, and a larger one is rounded). -/
def binary64 : Numerics Double where
  ofNat n := if n < 9007199254740992 then .finite (n : Rat) else round64 false (n : Rat)
  ofVref v := round64 (decide (v < 0)) v
  mul := mul64
  div := div64
  sub := sub64

end Sys2Proof.Machine
end

