-- ==== Sys2Proof/Laws/Numerics.lean ====
section
/-! SUPPORT. Every arithmetic the model gives the converter is exact on the numbers it converts (spec/44_calibration_converter.md R212). -/
namespace Sys2Proof.Laws
open Sys2Proof.Machine

theorem numerics_admissible : Config.numerics.Admissible .finite := fun _ h => if_pos h

theorem exact_admissible : Numerics.exact.Admissible id := fun _ _ => rfl

theorem binary64_admissible : binary64.Admissible .finite := fun _ h => if_pos (Nat.lt_trans h (by decide))

/-- The OPEN operations are the model's as they are. -/
@[simp] theorem numerics_mul : Config.numerics.mul = Config.openNumerics.mul := rfl
@[simp] theorem numerics_div : Config.numerics.div = Config.openNumerics.div := rfl
@[simp] theorem numerics_sub : Config.numerics.sub = Config.openNumerics.sub := rfl
@[simp] theorem numerics_ofVref : Config.numerics.ofVref = Config.openNumerics.ofVref := rfl

end Sys2Proof.Laws
end

