-- ==== Sys2Proof/Laws/PerInstr.lean ====
section
/-! SUPPORT. Laws made per instruction: one lemma for each constructor of `Instr`. -/
namespace Sys2Proof.Laws.EncodesWellFormed

/-- The words of `i` are well formed: none of the conditions of spec/30_encoding.md R102 holds of a command word, and a frame has the
command byte, the length and the bracket of R95 to R97 and R103. -/
def Statement (i : Instr) : Prop := (encode i).wellFormed = true

/-- The words of an operation with an 8-bit operand are well formed whatever the operand is. -/
theorem statement_of_byte_operand (i : Byte → Instr) (op : BitVec 4) (h : ∀ a, encode (i a) = commandWord op a)
    (hw : ∀ a, (commandWord op a).wellFormed = true) (a : Byte) : Statement (i a) := by
  rw [Statement, h, hw]

theorem construct : Statement .construct := by rw [Statement]; decide
theorem initializeDevice : Statement .initializeDevice := by rw [Statement]; decide
theorem reset : Statement .reset := by rw [Statement]; decide
theorem setActiveChannel (ch : Byte) : Statement (.setActiveChannel ch) :=
  statement_of_byte_operand .setActiveChannel 3 (fun _ => rfl) (by decide) ch
theorem setGain (g : Byte) : Statement (.setGain g) := statement_of_byte_operand .setGain 4 (fun _ => rfl) (by decide) g
theorem setBipolar (b : Bool) : Statement (.setBipolar b) := by cases b <;> rw [Statement] <;> decide
theorem setInputBuffer (b : Bool) : Statement (.setInputBuffer b) := by cases b <;> rw [Statement] <;> decide
theorem setUpdateRate (r : Byte) : Statement (.setUpdateRate r) :=
  statement_of_byte_operand .setUpdateRate 7 (fun _ => rfl) (by decide) r
theorem setConversionMode (b : Bool) : Statement (.setConversionMode b) := by cases b <;> rw [Statement] <;> decide
theorem getReadingRaw (ch : Byte) : Statement (.getReadingRaw ch) :=
  statement_of_byte_operand .getReadingRaw 9 (fun _ => rfl) (by decide) ch
theorem getReadingVolts (ch : Byte) : Statement (.getReadingVolts ch) :=
  statement_of_byte_operand .getReadingVolts 10 (fun _ => rfl) (by decide) ch
theorem setPolarity (b : Bool) : Statement (.setPolarity b) := by cases b <;> rw [Statement] <;> decide
theorem writeConfigRegister : Statement .writeConfigRegister := by rw [Statement]; decide
theorem writeModeRegister : Statement .writeModeRegister := by rw [Statement]; decide
theorem startConversion : Statement .startConversion := by rw [Statement]; decide
theorem readConversionResult : Statement .readConversionResult := by rw [Statement]; decide
theorem resetFrame : Statement .resetFrame := by rw [Statement]; decide

end Sys2Proof.Laws.EncodesWellFormed
end

