-- ==== Sys2Proof/Tests/Slice0.lean ====
section
/-! SUPPORT. Tests on fixed values, their expected results from the vectors of spec/95_test_vectors.md (or worked out by hand from the
rule named), and for each obligation with hypotheses a witness that meets them. -/
namespace Sys2Proof.Tests
open Sys2Proof.Machine

/-! ### States and runs -/

/-- The state directly after `construct cs=10 freq=1000000 vref=5/2` under T (95, conventions; 00 R9), with the answers the transport
will give. -/
def underT (answers : List Answer) : State :=
  { State.reset with
    csLine := 10, busFrequency := 1000000, vRef := .finite (5 / 2), sideInputs := ⟨10, 1000000, .finite (5 / 2)⟩,
    modeRegister := 0x200F, transportMayFail := false, answers := answers }

/-- `n` answers of zeros. -/
def zeros (n : Nat) : List Answer := List.replicate n ⟨0, false⟩

/-- The answers to a reading of the data bytes `b0 b1 b2`: nine discarded ones come first (43 R194). -/
def data (b0 b1 b2 : Byte) : List Answer := zeros 9 ++ [⟨b0, false⟩, ⟨b1, false⟩, ⟨b2, false⟩]

/-- Under T with sixty answers of zeros: enough for every operation. -/
def quiet : State := underT (zeros 60)

/-- Under T with a transport that may fail and fails the `k`-th answer. -/
def failing (k : Nat) : State :=
  { underT (zeros k ++ [⟨0, true⟩] ++ zeros 60) with transportMayFail := true }

/-- Under T, in continuous mode (95 P6 run c). -/
def continuous (answers : List Answer) : State :=
  { underT answers with modeRegister := 0x000F, singleConversionMode := false }

/-- A block not constructed. -/
def blank : State := { quiet with constructed := false }

/-- The state an instruction answers. -/
def ran (i : Instr) (s : State) : State :=
  match exec i s with
  | .next t => t
  | .fault _ => s
  | .refused _ => s

/-- The same of a step. -/
def stepped (s : State) : State :=
  match step s with
  | .next t => t
  | .fault _ => s
  | .refused _ => s

/-- `s` with a command word issued. -/
def issued (w : Word) (s : State) : State := issueNext (.command w) s

/-- A write frame all of whose answers are zeros (95, event notation). -/
def frame (cmd hi lo : Byte) : List Event :=
  [.txnBegin, .csLow, .xfer cmd 0, .xfer hi 0, .xfer lo 0, .csHigh, .txnEnd]

/-! ### Well-formedness: a word for each check that refuses it (30 R102, V-table 6) -/

theorem test_wf_reserved_operation : commandWellFormed 0xC000 = false ∧ commandWellFormed 0xFFFF = false := by decide
theorem test_wf_reserved_field : commandWellFormed 0x3108 = false ∧ commandWellFormed 0x4F40 = false := by decide
theorem test_wf_operand : commandWellFormed 0x0001 = false ∧ commandWellFormed 0x20FF = false := by decide
theorem test_wf_boolean : commandWellFormed 0x5002 = false ∧ commandWellFormed 0xB003 = false := by decide
theorem test_wf_legal : commandWellFormed 0x30FF = true ∧ commandWellFormed 0xB001 = true := by decide
theorem test_wf_frame_command : frameWellFormed .own [0x18, 0, 0] = false := by decide
theorem test_wf_frame_length : frameWellFormed .own [0x10, 0] = false := by decide
theorem test_wf_frame_bracket : frameWellFormed .own [0x58, 0, 0, 0] = false := by decide
theorem test_wf_frame_reset : frameWellFormed .own [0xFF, 0xFF, 0xFF, 0xFE] = false := by decide

/-! ### Decoding (30 R95 to R102, V-tables 3 and 6) -/

theorem test_decode_no_operand :
    decode (.command 0x0000) = .ok .construct ∧ decode (.command 0x1000) = .ok .initializeDevice ∧
    decode (.command 0x2000) = .ok .reset := by decide
theorem test_decode_byte_operand :
    decode (.command 0x3008) = .ok (.setActiveChannel 8) ∧ decode (.command 0x4040) = .ok (.setGain 64) ∧
    decode (.command 0x70FF) = .ok (.setUpdateRate 0xFF) ∧ decode (.command 0x9003) = .ok (.getReadingRaw 3) ∧
    decode (.command 0xA0FF) = .ok (.getReadingVolts 255) := by decide
theorem test_decode_boolean :
    decode (.command 0x5001) = .ok (.setBipolar true) ∧ decode (.command 0x6000) = .ok (.setInputBuffer false) ∧
    decode (.command 0x8000) = .ok (.setConversionMode false) ∧ decode (.command 0x8001) = .ok (.setConversionMode true) ∧
    decode (.command 0xB000) = .ok (.setPolarity false) := by decide
theorem test_decode_refuses_by_name :
    decode (.command 0xE000) = .error .reservedOperation ∧ decode (.command 0x9A01) = .error .reservedField ∧
    decode (.command 0x1001) = .error .operandNotZero ∧ decode (.command 0x8080) = .error .booleanNotOneBit ∧
    decode (.frame .own [0x58, 0, 0, 0]) = .error .unknownFrame ∧ decode (.frame .own [0x10]) = .error .frameLength := by
  decide
theorem test_decode_frames :
    decode (.frame .own [0x10, 0x06, 0x12]) = .ok .writeConfigRegister ∧
    decode (.frame .own [0x08, 0x20, 0x0F]) = .ok .writeModeRegister ∧
    decode (.frame .caller [0x08, 0x20, 0x0F]) = .ok .startConversion ∧
    decode (.frame .caller [0x58, 0, 0, 0]) = .ok .readConversionResult ∧
    decode (.frame .own [0xFF, 0xFF, 0xFF, 0xFF]) = .ok .resetFrame := by decide
theorem test_table_words :
    decodeTableWord 16 0x4040 = some (.setGain 64) ∧ decodeTableWord 24 0x100612 = some .writeConfigRegister ∧
    decodeTableWord 32 0x58000000 = some .readConversionResult ∧ decodeTableWord 32 0xFFFFFFFF = some .resetFrame ∧
    decodeTableWord 16 0xC000 = none := by decide
theorem test_text_of_instruction :
    (Instr.setGain 64).text = "setGain 64" ∧ Instr.initializeDevice.text = "initialize" ∧
    (Instr.setConversionMode false).text = "setConversionMode false" := by decide

/-! ### The register encoder (V-tables 1 to 3) -/

theorem test_gain_bits : gainBits 64 = 6 ∧ gainBits 65 = 0 ∧ gainBits 3 = 0 ∧ gainBits 255 = 0 ∧ gainBits 128 = 7 := by
  decide
theorem test_config_word :
    encodeConfig 2 ⟨64, true, false⟩ = 0x0612 ∧ encodeConfig 5 ⟨128, true, true⟩ = 0x1715 ∧
    encodeConfig 7 ⟨1, false, true⟩ = 0x1007 ∧ encodeConfig 1 ⟨2, false, false⟩ = 0x0101 := by decide
theorem test_mode_word :
    withRate 0x200F 0x01 = 0x2001 ∧ withRate 0x000F 0x00 = 0x0000 ∧ withConvMode 0x200F false = 0x000F ∧
    withConvMode 0x000F true = 0x200F ∧ withConvMode 0x20FF false = 0x00FF := by decide
theorem test_join_raw : widenRaw (joinRaw 0x80 0x00 0x01) = 0x00800001 ∧ widenRaw (joinRaw 0x12 0x34 0x56) = 0x00123456 := by
  decide
theorem test_status_codes :
    [Status.ok, .invalidChannel, .transportFailure, .illegalCommand, .notConstructed].map Status.code = [0, 1, 2, 3, 4] := by
  decide

/-! ### One operation from reset (V-table 7), and the programs -/

/-- P1 step 1, from a block that is in another state in every field `construct` writes. -/
theorem test_construct :
    let s := ran .construct { continuous [] with constructed := false, fault := true, txnDepth := 3, activeChannel := 5 }
    s.configRegister = 0x0010 ∧ s.activeChannel = 0 ∧ s.singleConversionMode = true ∧ s.fault = false ∧
    s.constructed = true ∧ s.txnDepth = 0 ∧ s.csLine = 10 ∧ s.events = [] := by decide
theorem test_construct_keeps_line : (ran .construct { quiet with csLevel := .asserted }).csLevel = .asserted := by decide
theorem test_setActiveChannel :
    let s := ran (.setActiveChannel 7) quiet
    s.activeChannel = 7 ∧ s.configRegister = 0x0017 ∧ s.events = frame 0x10 0x00 0x17 := by decide
theorem test_setActiveChannel_ignored :
    let s := ran (.setActiveChannel 8) quiet
    s.response = ⟨.ok, none, .nothing⟩ ∧ s.activeChannel = 0 ∧ s.events = [] := by decide
theorem test_setGain :
    let s := ran (.setGain 128) quiet
    (entryOf 0 s).gain = 128 ∧ s.configRegister = 0x0710 ∧ s.events = frame 0x10 0x07 0x10 := by decide
theorem test_setGain_illegal_is_stored :
    let s := ran (.setGain 255) quiet
    (entryOf 0 s).gain = 255 ∧ s.configRegister = 0x0010 := by decide
/-- P2 steps 6 and 7. -/
theorem test_setBipolar_false_is_bipolar :
    let s := ran (.setBipolar false) (ran (.setPolarity false) quiet)
    (entryOf 0 s).isUnipolar = false ∧ s.configRegister = 0x0010 := by decide
theorem test_setPolarity_false_is_unipolar :
    let s := ran (.setPolarity false) quiet
    (entryOf 0 s).isUnipolar = true ∧ s.configRegister = 0x1010 ∧ s.events = frame 0x10 0x10 0x10 := by decide
theorem test_setInputBuffer :
    let s := ran (.setInputBuffer false) quiet
    (entryOf 0 s).isBuffered = true ∧ s.configRegister = 0x0010 ∧ s.events = [] := by decide
theorem test_setUpdateRate :
    let s := ran (.setUpdateRate 0xFF) quiet
    s.modeRegister = 0x20FF ∧ s.events = frame 0x08 0x20 0xFF := by decide
theorem test_setConversionMode :
    let s := ran (.setConversionMode false) quiet
    s.modeRegister = 0x000F ∧ s.singleConversionMode = false ∧ s.events = frame 0x08 0x00 0x0F := by decide
theorem test_reset :
    (ran .reset quiet).events =
      [.txnBegin, .csLow, .xfer 0xFF 0, .xfer 0xFF 0, .xfer 0xFF 0, .xfer 0xFF 0, .csHigh, .txnEnd] := by decide
/-- P1 step 2: 14 brackets and 43 exchanges, the last a configuration write of channel 0. -/
theorem test_bootstrap :
    let s := ran .initializeDevice { quiet with activeChannel := 3 }
    s.events.length = 100 ∧ draws s.events = 57 ∧ s.events.drop 93 = frame 0x10 0x00 0x10 ∧ s.activeChannel = 0 := by
  decide +kernel
/-- P1: the bytes of the first pass, of channel 0, after the four bytes of the reset. -/
theorem test_bootstrap_first_pass :
    ((sentBytes (ran .initializeDevice quiet).events).drop 4).take 6 = [0x10, 0x00, 0x10, 0x08, 0x20, 0x0F] := by
  decide +kernel
/-- P3 step 4: in continuous mode the line stays asserted. -/
theorem test_getReadingRaw_continuous :
    let s := ran (.getReadingRaw 3) (continuous (data 0x12 0x34 0x56))
    s.response.result = .raw 0x00123456 ∧ s.csLevel = .asserted ∧ s.txnDepth = 0 ∧ s.configRegister = 0x0013 := by decide
/-- V-table 7, the reading of channel 7: 19 events, the line released. -/
theorem test_getReadingRaw_single :
    let s := ran (.getReadingRaw 7) (underT (data 0 0 0))
    s.response.result = .raw 0 ∧ s.events.length = 19 ∧ s.csLevel = .released ∧ s.activeChannel = 7 := by decide
/-- V-table 7: a reading of channel 8, and P5 step 4. -/
theorem test_readings_invalid_channel :
    (ran (.getReadingRaw 8) quiet).response = ⟨.invalidChannel, some 8, .nothing⟩ ∧
    (ran (.getReadingVolts 255) quiet).response = ⟨.invalidChannel, some 255, .nothing⟩ := by decide
/-- P3 step 2: the sequence of `getReadingRaw`, whose result is a voltage (its value is the OPEN arithmetic's). -/
theorem test_getReadingVolts :
    let s := ran (.getReadingVolts 1) (underT (data 0x80 0x00 0x01))
    s.response.status = .ok ∧ s.configRegister = 0x0011 ∧ s.csLevel = .released ∧ s.drawCount = 0 := by decide +kernel
/-- V-table 7, gain 0: status `OK`, and one free value taken. -/
theorem test_getReadingVolts_gain_zero :
    let s := ran (.getReadingVolts 0) (ran (.setGain 0) quiet)
    s.response = ⟨.ok, none, .volts (Config.freeVolts 0)⟩ ∧ s.drawCount = 1 := by
  constructor <;> rfl
/-- The wire frames alone, with V-table 3's words. -/
theorem test_write_frames :
    (ran .writeConfigRegister { quiet with configRegister := 0x0612 }).events = frame 0x10 0x06 0x12 ∧
    (ran .writeModeRegister quiet).events = frame 0x08 0x20 0x0F ∧
    (ran .startConversion quiet).events = [.csLow, .xfer 0x08 0, .xfer 0x20 0, .xfer 0x0F 0] ∧
    (ran .startConversion quiet).csLevel = .asserted := by decide
theorem test_read_frame :
    let s := ran .readConversionResult
      { underT [⟨0, false⟩, ⟨0x80, false⟩, ⟨0, false⟩, ⟨1, false⟩] with csLevel := .asserted }
    s.response.result = .raw24 0x800001 ∧ s.csLevel = .released := by decide
theorem test_reset_frame : sentBytes (ran .resetFrame quiet).events = [0xFF, 0xFF, 0xFF, 0xFF] := by decide

/-! ### Errors (P5, P6) -/

/-- P6 run a: the fifth exchange fails, which is the seventh answer. -/
theorem test_failure_after_configuration :
    let s := ran (.getReadingRaw 2) (failing 6)
    s.events = [.txnBegin] ++ frame 0x10 0x00 0x12 ++ [.csLow, .xfer 0x08 0, .xferFail 0x20, .csHigh, .txnEnd] ∧
    s.response = ⟨.transportFailure, none, .nothing⟩ ∧ s.fault = true ∧ s.activeChannel = 2 ∧
    s.configRegister = 0x0012 := by decide
/-- P6 run b: the second exchange fails, with two brackets open. -/
theorem test_failure_in_nested_bracket :
    let s := ran (.getReadingRaw 2) (failing 3)
    s.events = [.txnBegin, .txnBegin, .csLow, .xfer 0x10 0, .xferFail 0x00, .csHigh, .txnEnd, .txnEnd] ∧
    s.txnDepth = 0 ∧ (ran (.setActiveChannel 1) s).fault = true := by decide
/-- P6 run c: the command byte of the read fails; the line ends released although the mode is continuous. -/
theorem test_failure_of_read :
    let s := ran (.getReadingRaw 5)
      { continuous (zeros 8 ++ [⟨0, true⟩]) with transportMayFail := true }
    s.events.drop 12 = [.sleep (Config.settleDelayMs 0x0F), .xferFail 0x58, .csHigh, .txnEnd] ∧ s.csLevel = .released := by
  constructor <;> rfl
/-- 60 R236 on 43 R192: a bootstrap whose pass 3 fails leaves channel 3 selected. -/
theorem test_failure_of_bootstrap :
    let s := ran .initializeDevice (failing 30)
    s.activeChannel = 3 ∧ s.configRegister = 0x0013 ∧ s.response.status = .transportFailure := by decide +kernel
/-- 60 R235: a failing `TxnBegin` opens no bracket and asserts nothing. -/
theorem test_failure_of_bracket :
    let s := ran (.setGain 2) (failing 0)
    s.events = [.txnFail] ∧ (entryOf 0 s).gain = 2 ∧ s.fault = true := by decide
/-- P5 steps 5 to 9. -/
theorem test_illegal_words :
    [0xC000, 0x5002, 0x1001, 0x3108, 0x0001].map (fun w => (stepped (issued w quiet)).response.status) =
      List.replicate 5 Status.illegalCommand := by decide
/-- P5 step 1, and V-table 7: `IllegalCommand` comes before `NotConstructed`. -/
theorem test_not_constructed :
    (stepped (issued 0x9001 blank)).response.status = .notConstructed ∧
    (stepped (issued 0xC000 blank)).response.status = .illegalCommand := by decide

/-! ### The converter (V-tables 4 and 5) -/

theorem test_volts_bipolar : rawToVoltsExact 0x800001 (5 / 2) 1 false = 5 / 16777216 := by
  norm_num [rawToVoltsExact, Config.fullScaleBipolar]
theorem test_volts_unipolar : rawToVoltsExact 0xABCDEF (5 / 2) 8 true = 56296875 / 268435456 := by
  norm_num [rawToVoltsExact, Config.fullScaleUnipolar]
/-- The row of V-table 5 whose binary64 result is not the nearest: 0.10437773883342742 (the neighbour is ...744). -/
theorem test_binary64 :
    rawToVolts binary64 0xABCDEF (binary64.ofVref (61 / 25)) 8 false = .finite (7521208731455979 / 2 ^ 56) := by
  decide +kernel
/-- IEEE 754, round to nearest even: past the largest finite value an infinity, half of the least subnormal a zero of the sign, and
`0 * infinity` a not-a-number. -/
theorem test_binary64_range :
    mul64 (.finite (2 ^ 1023)) (.finite (-2)) = .infinity true ∧
    mul64 (.finite (2 ^ 1023)) (.finite (2 - 1 / 2 ^ 52)) = .finite (2 ^ 1024 - 2 ^ 971) ∧
    div64 (.finite (-1 / 2 ^ 1074)) (.finite 2) = .negZero ∧ mul64 (.finite 0) (.infinity false) = .nan := by
  decide +kernel
/-- IEEE 754: a difference of equals is +0, a division by zero an infinity. -/
theorem test_binary64_zero :
    sub64 (.finite 1) (.finite 1) = .finite 0 ∧ sub64 .negZero (.finite 0) = .negZero ∧
    div64 (.finite 1) .negZero = .infinity true ∧ sub64 (.infinity false) (.infinity false) = .nan := by
  decide +kernel

/-! ### The device stub (20 R66, P1) -/

theorem test_device_after_bootstrap :
    let d := deviceAfter Device.unknown (ran .initializeDevice quiet).events
    d.devConfig = some 0x0010 ∧ d.devMode = some 0x200F ∧ d.devData = none := by decide +kernel
theorem test_device_after_reset :
    (deviceAfter { Device.unknown with devMode := some 0x200F } (ran .reset quiet).events).devMode = none := by decide

/-- 20 R66: a configuration frame cut short leaves that register without a value, and the mode register's as it was. -/
theorem test_device_after_cut_frame :
    let d := deviceAfter { Device.unknown with devMode := some 0x200F, devConfig := some 0x0010 }
      (ran (.setGain 2) (failing 3)).events
    d.devConfig = none ∧ d.devMode = some 0x200F := by decide

/-! ### Witnesses: for each obligation with hypotheses, what meets them, clause by clause -/

/-- An asserted line, as a continuous reading leaves it. -/
def asserted : State := { quiet with csLevel := .asserted }

theorem witness_CommandWordHasOneMeaning : decode (.command 0x4040) = .ok (.setGain 64) := by decide
theorem witness_StepRunsDecodedIssue :
    (issued 0x4040 quiet).pending = ⟨.command 0x4040, quiet.sideInputs⟩ :: [] ∧
    decode (.command 0x4040) = .ok (.setGain 64) := ⟨rfl, by decide⟩
theorem witness_FetchedWordRuns : decodeTableWord 24 0x080000 = some .writeModeRegister := by decide
theorem witness_IdleStepChangesNothing : quiet.pending = [] := rfl
/-- One ill-formed word for each of R102's conditions, a frame that is none of the five, and an instruction that answers. -/
theorem witness_IllegalCommandChangesNothing :
    (issued 0xC000 quiet).pending = ⟨.command 0xC000, quiet.sideInputs⟩ :: [] ∧
    (Words.command 0xC000).wellFormed = false ∧ (Words.command 0x3108).wellFormed = false ∧
    (Words.command 0x0001).wellFormed = false ∧ (Words.command 0x5002).wellFormed = false ∧
    (issueNext (.frame .own [0x18, 0, 0]) blank).pending = ⟨.frame .own [0x18, 0, 0], quiet.sideInputs⟩ :: [] ∧
    (Words.frame .own [0x18, 0, 0]).wellFormed = false ∧
    exec .reset quiet = .next (ran .reset quiet) :=
  ⟨rfl, by decide, by decide, by decide, by decide, rfl, by decide, rfl⟩
/-- The least and the greatest legal gain, and an illegal one. -/
theorem witness_GainCodeIsExactLookup :
    (0 < 8 ∧ 7 < 8) ∧ ∀ k : Nat, k < 8 → (3 : Byte) ≠ BitVec.ofNat 8 (2 ^ k) := by decide
theorem witness_ResetIsWhatConstructLeaves :
    State.reset.sideInputs = State.reset.sideInputs ∧ State.reset.csLevel = .released := ⟨rfl, rfl⟩
theorem witness_NotConstructedRefusesOperations :
    Instr.reset.isHostOperation = true ∧ Instr.reset ≠ .construct ∧ blank.constructed = false := by decide
theorem witness_NotConstructedRefusesFrames :
    Instr.resetFrame.isHostOperation = false ∧ blank.constructed = false := by decide
/-- The least and the greatest valid channel. -/
theorem witness_SetActiveChannelSelects :
    quiet.constructed = true ∧ (0 : Byte).toNat < 8 ∧ (7 : Byte).toNat < 8 ∧ TransportOk 4 quiet := by
  unfold TransportOk; decide
theorem witness_SetActiveChannelIgnoresInvalid :
    quiet.constructed = true ∧ 8 ≤ (8 : Byte).toNat ∧ 8 ≤ (255 : Byte).toNat := by decide
/-- The state of every statement about one write or read frame: `SetGainStoresAndWrites`, `SetBipolarAlwaysBipolar`,
`SetPolaritySetsPolarity`, `SetInputBufferDoesNothing`, `SetUpdateRateWritesThrough`, `SetConversionModeSetsBitsAndFlag`,
`WriteConfigFrame`, `WriteModeFrame`, `ReadConversionResultIsBigEndian`. -/
theorem witness_one_frame : quiet.constructed = true ∧ TransportOk 4 quiet := by unfold TransportOk; decide
/-- The state of `ResetSendsTheResetFrame`, `ResetFrameSendsFourBytesOfOnes` and, with fewer answers, `StartConversionHoldsChipSelect`. -/
theorem witness_reset_frame : quiet.constructed = true ∧ TransportOk 5 quiet ∧ TransportOk 3 quiet := by
  unfold TransportOk; decide
theorem witness_BootstrapConfiguresAnalogChannels : quiet.constructed = true ∧ TransportOk 57 quiet := by
  unfold TransportOk; decide +kernel
/-- A reading of the greatest valid channel, in single and in continuous mode. -/
theorem witness_ReadingRawRunsTheSequence :
    quiet.constructed = true ∧ (7 : Byte).toNat < 8 ∧ TransportOk 12 quiet ∧ quiet.singleConversionMode = true ∧
    TransportOk 12 (continuous (zeros 12)) ∧ (continuous (zeros 12)).singleConversionMode = false := by
  unfold TransportOk; decide
/-- A one-frame setter and a reading that fail at their first and at their last answer, and a bootstrap that fails in its reset frame,
in its pass 3 and in its last frame. -/
theorem witness_FailingInstructionsAbort :
    (failing 0).constructed = true ∧ reachesWire (.setGain 2) = true ∧ ¬ TransportOk (answersNeeded (.setGain 2)) (failing 0) ∧
    ¬ TransportOk (answersNeeded (.setGain 2)) (failing 3) ∧ reachesWire (.getReadingRaw 7) = true ∧
    ¬ TransportOk (answersNeeded (.getReadingRaw 7)) (failing 0) ∧
    ¬ TransportOk (answersNeeded (.getReadingRaw 7)) (failing 11) ∧
    ¬ TransportOk (answersNeeded .initializeDevice) (failing 2) ∧
    ¬ TransportOk (answersNeeded .initializeDevice) (failing 30) ∧
    ¬ TransportOk (answersNeeded .initializeDevice) (failing 56) := by
  unfold TransportOk answersNeeded; decide +kernel
theorem witness_ReadingsCheckTheirChannel :
    quiet.constructed = true ∧ 8 ≤ (8 : Byte).toNat ∧ 8 ≤ (255 : Byte).toNat := by decide
/-- A reading in volts of both polarities. -/
theorem witness_ReadingVoltsAppliesTheTransferFunction :
    (quiet.constructed = true ∧ (0 : Byte).toNat < 8 ∧ TransportOk 12 quiet ∧ (entryOf 0 quiet).gain ≠ 0 ∧
      (entryOf 0 quiet).isUnipolar = false ∧ (entryOf 0 (ran (.setPolarity false) quiet)).isUnipolar = true) ∧ quiet.vRef = .finite (5 / 2) ∧ (0 : Rat) < 5 / 2 :=
  ⟨by unfold TransportOk; decide, rfl, by norm_num⟩
/-- Gain 0, a `vRef` of zero, and one that is no number. -/
theorem witness_UndefinedVoltsAreFree :
    TransportOk 12 { quiet with channels := Vector.replicate 8 ⟨0, true, false⟩ } ∧
    ({ quiet with channels := Vector.replicate 8 ⟨0, true, false⟩ }.channels[(0 : Channel).toNat]'(by decide)).gain = 0 ∧
    TransportOk 12 { quiet with vRef := .finite 0 } ∧ (Volts.finite 0).isPositive = false ∧
    (Volts.special 0).isPositive = false := by unfold TransportOk; decide +kernel
theorem witness_ExactConversionFormulaAndRanges : 16777215 ≤ 16777215 ∧ 1 ≤ 1 ∧ (0 : Rat) < 5 / 2 := by norm_num
theorem witness_ConverterProperties : 1 ≤ 1 ∧ (0 : Rat) < 5 / 2 ∧ 0 < 16777216 := by norm_num
theorem witness_FramesSendTheirBytes :
    Instr.writeConfigRegister.isHostOperation = false ∧ quiet.constructed = true ∧
    exec .writeConfigRegister quiet = .next (ran .writeConfigRegister quiet) ∧
    (ran .writeConfigRegister quiet).response.status = .ok := ⟨rfl, rfl, rfl, by decide⟩
theorem witness_TransportFailureAborts :
    exec (.setGain 2) (failing 3) = .next (ran (.setGain 2) (failing 3)) ∧
    (ran (.setGain 2) (failing 3)).response.status = .transportFailure := ⟨rfl, by decide⟩
/-- With an earlier failure's `fault` still set. -/
theorem witness_NoFailureUnlessAllowed :
    quiet.transportMayFail = false ∧ exec .reset quiet = .next (ran .reset quiet) ∧
    (ran .reset { quiet with fault := true }).fault = true := ⟨rfl, rfl, by decide⟩
/-- Its three clauses: a set flag kept, one newly set, and one cleared. -/
theorem witness_FaultIsSticky :
    exec .reset { quiet with fault := true } = .next (ran .reset { quiet with fault := true }) ∧ Instr.reset ≠ .construct ∧
    (ran .reset (failing 0)).fault = true ∧
    exec .construct { quiet with fault := true } = .next (ran .construct { quiet with fault := true }) :=
  ⟨rfl, by decide, by decide, rfl⟩
theorem witness_StepKeepsShadowInvariant :
    ShadowInv (issued 0x4080 quiet) ∧ step (issued 0x4080 quiet) = .next (stepped (issued 0x4080 quiet)) :=
  ⟨by unfold ShadowInv; decide, rfl⟩
theorem witness_StepKeepsBracketsClosed :
    BracketsClosed (issued 0x2000 quiet) ∧ step (issued 0x2000 quiet) = .next (stepped (issued 0x2000 quiet)) :=
  ⟨rfl, rfl⟩
theorem witness_StepKeepsBuffered :
    AllBuffered (issued 0x6000 quiet) ∧ step (issued 0x6000 quiet) = .next (stepped (issued 0x6000 quiet)) :=
  ⟨by unfold AllBuffered; decide, rfl⟩
theorem witness_OnlySetPolarityMakesUnipolar :
    (∀ v, Instr.setGain 2 ≠ .setPolarity v) ∧ exec (.setGain 2) quiet = .next (ran (.setGain 2) quiet) ∧
    ∀ ch : Channel, (entryOf ch quiet).isUnipolar = false := ⟨by decide, rfl, by decide⟩
/-- Both ways a line is left asserted: a continuous reading, and an operation that finds it so and emits nothing. -/
theorem witness_ChipSelectReleasedBetweenOperations :
    (ran (.getReadingRaw 3) (continuous (zeros 12))).csLevel = .asserted ∧
    (ran (.setInputBuffer true) asserted).csLevel = .asserted ∧ (Instr.setInputBuffer true).isHostOperation = true := by
  decide
theorem witness_SideInputsLatchedUntilConstruct :
    Instr.reset ≠ .construct ∧ exec .reset quiet = .next (ran .reset quiet) := ⟨by decide, rfl⟩
/-- Every register is changed by some writer of it. -/
theorem witness_OnlyTheirWritersChangeRegisters :
    (ran (.setUpdateRate 1) quiet).modeRegister ≠ quiet.modeRegister ∧
    (ran (.setConversionMode false) quiet).singleConversionMode ≠ quiet.singleConversionMode ∧
    (ran (.setActiveChannel 5) quiet).activeChannel ≠ quiet.activeChannel ∧
    (ran (.setGain 2) quiet).channels ≠ quiet.channels ∧
    (ran (.setGain 2) quiet).configRegister ≠ quiet.configRegister ∧
    (ran .construct blank).constructed ≠ blank.constructed ∧ (ran .reset asserted).csLevel ≠ asserted.csLevel := by decide
theorem witness_SettersTouchTheActiveEntryOnly :
    Instr.setGain 2 ≠ .construct ∧ exec (.setGain 2) quiet = .next (ran (.setGain 2) quiet) ∧
    (7 : Channel) ≠ quiet.activeChannel := ⟨by decide, rfl, by decide⟩
theorem witness_EventsAreOnlyAppended : exec .reset quiet = .next (ran .reset quiet) := rfl
/-- The answers to a reading of the data bytes 1, 2, 3 with other bytes in the exchanges whose bytes are discarded. -/
def noisy : List Answer := List.replicate 9 ⟨9, false⟩ ++ [⟨1, false⟩, ⟨2, false⟩, ⟨3, false⟩]

/-- A setter whose transport answers with other bytes and fails alike, and a reading that keeps the same three data bytes. -/
theorem witness_ReceivedBytesAreDiscarded :
    [Answer.mk 9 false, ⟨8, true⟩].map Answer.fails = [Answer.mk 0 false, ⟨0, true⟩].map Answer.fails ∧
    keptAnswers (.setGain 2) = [] ∧ exec (.setGain 2) (failing 1) = .next (ran (.setGain 2) (failing 1)) ∧
    noisy.map Answer.fails = (data 1 2 3).map Answer.fails ∧
    ∀ k ∈ keptAnswers (.getReadingRaw 3), byteAt k { underT (data 1 2 3) with answers := noisy } =
      byteAt k (underT (data 1 2 3)) := ⟨by decide, rfl, rfl, by decide, by decide⟩
theorem witness_ExchangesAreFramed :
    (Instr.getReadingRaw 3).isHostOperation = true ∧
    exec (.getReadingRaw 3) (failing 8) = .next (ran (.getReadingRaw 3) (failing 8)) := ⟨rfl, rfl⟩
/-- A device in step with the shadow under a setter that writes one register only, and one that knows nothing under a bootstrap and a
reading, which write both. -/
theorem witness_DeviceFollowsShadow :
    let d : Device := { Device.unknown with devMode := some 0x200F, devConfig := some 0x0010 }
    (Instr.setGain 2).isHostOperation = true ∧ Instr.setGain 2 ≠ .construct ∧ Instr.setGain 2 ≠ .reset ∧
    quiet.constructed = true ∧ quiet.fault = false ∧ DeviceIdle d quiet ∧ (ran (.setGain 2) quiet).response.status = .ok ∧
    writesConfig (.setGain 2) = true ∧ writesMode (.setGain 2) = false ∧ ConfigInSync d quiet ∧ ModeInSync d quiet ∧
    DeviceIdle Device.unknown quiet ∧ (ran .initializeDevice quiet).response.status = .ok ∧
    writesConfig .initializeDevice = true ∧ writesMode (.getReadingRaw 7) = true ∧
    (ran (.getReadingRaw 7) quiet).response.status = .ok := by
  unfold DeviceIdle ConfigInSync ModeInSync; decide +kernel
theorem witness_DeviceResetForgetsRegisters :
    let d : Device := { Device.unknown with devMode := some 0x200F, devConfig := some 0x0010 }
    quiet.constructed = true ∧ quiet.fault = false ∧ DeviceIdle d quiet ∧ exec .reset quiet = .next (ran .reset quiet) ∧
    (ran .reset quiet).response.status = .ok := ⟨rfl, rfl, ⟨rfl, rfl⟩, rfl, by decide⟩

end Sys2Proof.Tests
end

section
/-! The register encoder: the configuration word bit by bit and the gain code (spec/30_encoding.md R92, R93). -/
namespace Sys2Proof.Proofs
open Sys2Proof.Machine

/-- The fields of the configuration word do not overlap: each bit is that of the one field that holds it, or 0 (30 R92). -/
theorem getLsbD_encodeConfig (ch : Channel) (cfg : ChannelConfig) (i : Nat) :
    (encodeConfig ch cfg).getLsbD i =
      if i < 3 then ch.getLsbD i
      else if i = 4 then cfg.isBuffered
      else if 8 ≤ i ∧ i < 11 then (gainBits cfg.gain).getLsbD (i - 8)
      else if i = 12 then cfg.isUnipolar
      else false := by
  simp only [encodeConfig, BitVec.getLsbD_or, BitVec.getLsbD_shiftLeft, BitVec.getLsbD_setWidth, BitVec.getLsbD_ofBool]
  split_ifs with hch hbuf hgain huni
  · simp [show i < 16 by omega, show i < 12 by omega, show i < 8 by omega, show i < 4 by omega]
  · simp [hbuf]
  · simp [show i < 16 by omega, show i < 12 by omega, show ¬ i < 8 by omega, show i - 8 < 16 by omega,
      show i - 4 ≠ 0 by omega, BitVec.getLsbD_of_ge ch i (by omega)]
  · simp [huni]
  · have hgainOut : 8 ≤ i → (gainBits cfg.gain).getLsbD (i - 8) = false := fun h => BitVec.getLsbD_of_ge _ _ (by omega)
    have hchOut : ch.getLsbD i = false := BitVec.getLsbD_of_ge ch i (by omega)
    grind

/-- The bits of the mask `0xE8E8` are those outside every field of the configuration word. -/
theorem getLsbD_reservedMask {i : Nat} (hi : i < 16) :
    (0xE8E8 : Word).getLsbD i = decide (¬ i < 3 ∧ i ≠ 4 ∧ ¬ (8 ≤ i ∧ i < 11) ∧ i ≠ 12) := by
  decide +revert

/-- The bits of the configuration word outside its fields are 0 (30 R92). -/
theorem encodeConfig_and_reservedMask (ch : Channel) (cfg : ChannelConfig) : encodeConfig ch cfg &&& 0xE8E8 = 0 := by
  refine BitVec.eq_of_getLsbD_eq fun i hi => ?_
  rw [BitVec.getLsbD_and, getLsbD_encodeConfig, getLsbD_reservedMask hi]
  split_ifs <;> simp [*]

/-- Bits 2:0, the channel field (30 R92). -/
theorem extractLsb'_channel_encodeConfig (ch : Channel) (cfg : ChannelConfig) :
    (encodeConfig ch cfg).extractLsb' 0 3 = ch := by
  refine BitVec.eq_of_getLsbD_eq fun i hi => ?_
  simp [getLsbD_encodeConfig, hi]

/-- Bits 10:8, the gain field (30 R92). -/
theorem extractLsb'_gain_encodeConfig (ch : Channel) (cfg : ChannelConfig) :
    (encodeConfig ch cfg).extractLsb' 8 3 = gainBits cfg.gain := by
  refine BitVec.eq_of_getLsbD_eq fun i hi => ?_
  simp [getLsbD_encodeConfig, hi, show ¬ 8 + i < 3 by omega, show 8 + i ≠ 4 by omega, show 8 + i < 11 by omega]

/-- Settles O11, each field and the zero bits read off the word bit by bit. -/
theorem configWordFields : Obligations.ConfigWordFields := fun ch cfg =>
  ⟨extractLsb'_channel_encodeConfig ch cfg, getLsbD_encodeConfig ch cfg 4, extractLsb'_gain_encodeConfig ch cfg,
    getLsbD_encodeConfig ch cfg 12, encodeConfig_and_reservedMask ch cfg⟩

/-- The gain code of each power of two the table lists (40 R121). -/
theorem gainBits_two_pow : ∀ k : Nat, k < 8 → (gainBits (BitVec.ofNat 8 (2 ^ k))).toNat = k := by decide

/-- A gain that no entry of the table matches falls through to the code 0 (40 R121). -/
theorem gainBits_of_unmatched {g : Byte} (h : ∀ k : Nat, k < 8 → g ≠ BitVec.ofNat 8 (2 ^ k)) : gainBits g = 0 :=
  calc gainBits g
    _ = _ := if_neg (h 0 (by decide))
    _ = _ := if_neg (h 1 (by decide))
    _ = _ := if_neg (h 2 (by decide))
    _ = _ := if_neg (h 3 (by decide))
    _ = _ := if_neg (h 4 (by decide))
    _ = _ := if_neg (h 5 (by decide))
    _ = _ := if_neg (h 6 (by decide))
    _ = 0 := if_neg (h 7 (by decide))

/-- Settles O12: the eight entries of the table, and the fallback when none of them matches. -/
theorem gainCodeIsExactLookup : Obligations.GainCodeIsExactLookup :=
  ⟨gainBits_two_pow, fun _ => gainBits_of_unmatched⟩

end Sys2Proof.Proofs
end

section
/-! The register encoder: the two fields of the mode word (spec/40_register_encoder.md R125, R126). A field of a word taken through a mask
and an OR is the field of each operand through the mask's and the OR's, so each statement turns on what the mask and the new value hold
in that field. -/
namespace Sys2Proof.Proofs
open Sys2Proof.Machine

/-- The mask `0xFF00` is clear in the low byte and the code fills it (40 R125). -/
theorem extractLsb'_low_withRate (mode : Word) (rate : Byte) : (withRate mode rate).extractLsb' 0 8 = rate := by
  have hmask : (0xFF00 : Word).extractLsb' 0 8 = 0#8 := by decide
  have hrate : (rate.setWidth 16).extractLsb' 0 8 = rate := by
    rw [BitVec.extractLsb'_setWidth_of_le (by decide), BitVec.extractLsb'_eq_self]
  rw [withRate, BitVec.extractLsb'_or, BitVec.extractLsb'_and, hmask, hrate, BitVec.and_zero, BitVec.zero_or]

/-- The mask `0xFF00` is set throughout the high byte and the code does not reach it (40 R125). -/
theorem extractLsb'_high_withRate (mode : Word) (rate : Byte) :
    (withRate mode rate).extractLsb' 8 8 = mode.extractLsb' 8 8 := by
  have hmask : (0xFF00 : Word).extractLsb' 8 8 = BitVec.allOnes 8 := by decide
  have hrate : (rate.setWidth 16).extractLsb' 8 8 = 0#8 := by
    refine BitVec.eq_of_getLsbD_eq fun i _ => ?_
    simp
  rw [withRate, BitVec.extractLsb'_or, BitVec.extractLsb'_and, hmask, hrate, BitVec.and_allOnes, BitVec.or_zero]

/-- Settles O13, the mode word's two bytes in turn. -/
theorem rateReplacesLowByte : Obligations.RateReplacesLowByte := fun mode rate =>
  ⟨extractLsb'_low_withRate mode rate, extractLsb'_high_withRate mode rate⟩

/-- The mask `0x1FFF` is clear in bits 15:13 and the field's code is shifted there (40 R126). -/
theorem extractLsb'_field_withConvMode (mode : Word) (single : Bool) :
    (withConvMode mode single).extractLsb' 13 3 = convCode single := by
  have hmask : ((0x1FFF : Nat) : Word).extractLsb' 13 3 = 0#3 := by decide
  have hcode : ((convCode single).setWidth 16 <<< 13).extractLsb' 13 3 = convCode single := by
    refine BitVec.eq_of_getLsbD_eq fun i hi => ?_
    simp [hi, show 13 + i < 16 by omega]
  rw [withConvMode, BitVec.extractLsb'_or, BitVec.extractLsb'_and, hmask, hcode, BitVec.and_zero, BitVec.zero_or]

/-- The mask `0x1FFF` is set throughout bits 12:0 and the shifted code leaves them 0 (40 R126). -/
theorem extractLsb'_low_withConvMode (mode : Word) (single : Bool) :
    (withConvMode mode single).extractLsb' 0 13 = mode.extractLsb' 0 13 := by
  have hmask : ((0x1FFF : Nat) : Word).extractLsb' 0 13 = BitVec.allOnes 13 := by decide
  have hcode : ((convCode single).setWidth 16 <<< 13).extractLsb' 0 13 = 0#13 := by
    refine BitVec.eq_of_getLsbD_eq fun i hi => ?_
    simp [hi]
  rw [withConvMode, BitVec.extractLsb'_or, BitVec.extractLsb'_and, hmask, hcode, BitVec.and_allOnes, BitVec.or_zero]

/-- Settles O14: the field takes the code of the conversion mode, and the bits below it stay (decision D17). -/
theorem conversionModeReplacesTopBits : Obligations.ConversionModeReplacesTopBits := fun mode single =>
  ⟨extractLsb'_field_withConvMode mode single, extractLsb'_low_withConvMode mode single⟩

end Sys2Proof.Proofs
end

section
/-! Decoding a command word written as its operation bits with the operand OR-ed in, the form spec/42_config_operations.md gives the words of
its operations in (spec/30_encoding.md R98 to R100). -/
namespace Sys2Proof.Proofs
open Sys2Proof.Machine

/-- A word with nothing below its operation field decodes, with an operand OR-ed in, as that operation on that operand (30 R98). -/
theorem decode_opWord_or_arg {opWord : Word} (h : opWord.extractLsb' 0 12 = 0) (arg : Byte) :
    decode (.command (opWord ||| arg.setWidth 16)) = decodeOperation (opWord.extractLsb' 12 4).toNat arg := by
  have hlow : ∀ i < 12, opWord.getLsbD i = false := fun i hi => by
    simpa [hi] using congrArg (BitVec.getLsbD · i) h
  have hrsv : (opWord ||| arg.setWidth 16).extractLsb' 8 4 = 0 := by
    refine BitVec.eq_of_getLsbD_eq fun i hi => ?_
    simp [hlow (8 + i) (by omega)]
  have hop : (opWord ||| arg.setWidth 16).extractLsb' 12 4 = opWord.extractLsb' 12 4 := by
    refine BitVec.eq_of_getLsbD_eq fun i _ => ?_
    simp [BitVec.getLsbD_of_ge arg (12 + i) (by omega)]
  have harg : (opWord ||| arg.setWidth 16).extractLsb' 0 8 = arg := by
    refine BitVec.eq_of_getLsbD_eq fun i hi => ?_
    simp [hi, show opWord[i] = false from hlow i (by omega), show i < 16 by omega]
  rw [decode, decodeCommand, if_pos hrsv, hop, harg]

/-- The operand of a boolean operation decodes to its boolean (30 R100). -/
theorem decodeBoolean_booleanArg (b : Bool) (i : Bool → Instr) : decodeBoolean (booleanArg b) i = .ok (i b) := by
  cases b <;> rfl

/-- A boolean OR-ed into a word of a boolean operation decodes as that operation on it. -/
theorem decode_opWord_or_bool {opWord : Word} (h : opWord.extractLsb' 0 12 = 0) {i : Bool → Instr}
    (hop : ∀ arg, decodeOperation (opWord.extractLsb' 12 4).toNat arg = decodeBoolean arg i) (b : Bool) :
    decode (.command (opWord ||| (BitVec.ofBool b).setWidth 16)) = .ok (i b) := by
  have hb : (BitVec.ofBool b).setWidth 16 = (booleanArg b).setWidth 16 := by cases b <;> rfl
  rw [hb, decode_opWord_or_arg h, hop, decodeBoolean_booleanArg]

end Sys2Proof.Proofs
end

section
/-! The configuration operations (spec/42_config_operations.md): the setters of the active entry are one operation, as are the writers of the
mode word, each with another new value. -/
namespace Sys2Proof.Proofs
open Sys2Proof.Machine Sys2Proof.Laws

/-- On a constructed block an instruction other than `construct` answers what its body leaves. -/
theorem exec_eq_next_of_body {i : Instr} {s t : State} (hi : i ≠ .construct) (hc : s.constructed = true)
    (hbody : body i s = t) : exec i s = .next t := by
  rw [exec_eq_operation hi, operation_of_constructed hc, hbody]

/-- A setter of the active entry whose answers come leaves the entry, the rebuilt word and its frame (42 R164 to R168). -/
theorem finish_setActiveEntry {s : State} (c : ChannelConfig) (h : TransportOk 4 s) :
    finish noResult (rebuildAndWrite (setActiveEntry c s)) =
      afterOperation 4 (writeFrameEvents 0x10 (encodeConfig s.activeChannel c) 0 s) Response.done
        { withEntry c s with csLevel := .released } := by
  rw [setter_ok c h]; rfl

/-- A write of the mode register whose answers come leaves its frame (42 R172, R174). -/
theorem finish_writeModeRegister {s : State} (h : TransportOk 4 s) :
    finish noResult (writeModeRegister s) =
      afterOperation 4 (writeFrameEvents 0x08 s.modeRegister 0 s) Response.done { s with csLevel := .released } := by
  rw [writeModeRegister_ok h]; rfl

/-- Settles O22: a setter of the active entry, whose new entry takes the gain unchecked. -/
theorem setGainStoresAndWrites : Obligations.SetGainStoresAndWrites := fun g s =>
  ⟨decode_opWord_or_arg (opWord := 0x4000) (by decide) g, fun hc h =>
    exec_eq_next_of_body (by simp) hc (finish_setActiveEntry { activeEntry s with gain := g } h)⟩

/-- Settles O23: a setter of the active entry, whose new entry does not depend on the operand. -/
theorem setBipolarAlwaysBipolar : Obligations.SetBipolarAlwaysBipolar := fun v s =>
  ⟨decode_opWord_or_bool (opWord := 0x5000) (by decide) (fun _ => rfl) v, fun hc h =>
    exec_eq_next_of_body (by simp) hc (finish_setActiveEntry { activeEntry s with isUnipolar := false } h)⟩

/-- Settles O24: a setter of the active entry (decision D18). -/
theorem setPolaritySetsPolarity : Obligations.SetPolaritySetsPolarity := fun v s =>
  ⟨decode_opWord_or_bool (opWord := 0xB000) (by decide) (fun _ => rfl) v, fun hc h =>
    exec_eq_next_of_body (by simp) hc (finish_setActiveEntry { activeEntry s with isUnipolar := !v } h)⟩

/-- Settles O25: it does not reach the wire, so it only answers (42 R170). -/
theorem setInputBufferDoesNothing : Obligations.SetInputBufferDoesNothing := fun v s =>
  ⟨decode_opWord_or_bool (opWord := 0x6000) (by decide) (fun _ => rfl) v, fun hc =>
    exec_eq_next_of_body (by simp) hc (body_quiet (by simp) rfl s)⟩

/-- Settles O26: a writer of the mode word, whose new word is `withRate`. -/
theorem setUpdateRateWritesThrough : Obligations.SetUpdateRateWritesThrough := fun r s =>
  ⟨decode_opWord_or_arg (opWord := 0x7000) (by decide) r, fun hc h =>
    exec_eq_next_of_body (by simp) hc (finish_writeModeRegister (s := shadowAfter (.setUpdateRate r) s) h)⟩

/-- The conversion mode's code in its place: `0x2000` is the code of single mode, continuous mode's is 0 (30 R91). -/
theorem withConvMode_eq (mode : Word) (single : Bool) :
    withConvMode mode single = (mode &&& 0x1FFF) ||| (if single then 0x2000 else 0x0000) := by
  cases single <;> rfl

/-- Settles O27: a writer of the mode word, whose new word is `withConvMode` (decision D17), with the flag set beside it. -/
theorem setConversionModeSetsBitsAndFlag : Obligations.SetConversionModeSetsBitsAndFlag := fun v s =>
  ⟨decode_opWord_or_bool (opWord := 0x8000) (by decide) (fun _ => rfl) v, fun hc h => by
    simp only [← withConvMode_eq]
    exact exec_eq_next_of_body (by simp) hc (finish_writeModeRegister (s := shadowAfter (.setConversionMode v) s) h)⟩

/-- The default mode word: the rate code, which lies below the conversion-mode field, and single mode (40 R127). -/
theorem defaultMode_eq : defaultMode = 0x2000 ||| Config.defaultRateCode.setWidth 16 := by
  have hrate : withRate 0x0000 Config.defaultRateCode = Config.defaultRateCode.setWidth 16 := by simp [withRate]
  have hkept : Config.defaultRateCode.setWidth 16 &&& 0x1FFF = Config.defaultRateCode.setWidth 16 := by
    refine BitVec.eq_of_toNat_eq ?_
    have := Config.defaultRateCode.isLt
    simp only [BitVec.toNat_and, BitVec.toNat_setWidth]
    rw [show (0x1FFF : Word).toNat = 2 ^ 13 - 1 from rfl, Nat.and_two_pow_sub_one_eq_mod]
    omega
  rw [defaultMode, hrate, withConvMode_eq, hkept, BitVec.or_comm]
  rfl

/-- The configuration word rebuilt on channel 0 with every entry at its default: buffer enabled, and no other bit (10 R34). -/
theorem rebuildConfig_of_defaults {s : State} (hchannels : s.channels = defaultChannels) (hactive : s.activeChannel = 0) :
    rebuildConfig s = { s with configRegister := 0x0010 } := by
  have hentry : activeEntry s = .default := by simp [activeEntry, hchannels, defaultChannels]
  have hword : encodeConfig 0 .default = 0x0010 := by decide
  rw [rebuildConfig, hentry, hactive, hword]

/-- Settles O15: the two register words are the encoder's defaults, and the rest is latched or set as written. -/
theorem constructResetsTheBlock : Obligations.ConstructResetsTheBlock :=
  ⟨rfl, fun s => by
    rw [← defaultMode_eq]
    change execConstruct s = _
    rw [execConstruct, rebuildConfig_of_defaults rfl rfl]
    rfl⟩

end Sys2Proof.Proofs
end

section
/-! The sequencer operations (spec/43_sequencer_operations.md): the device reset. -/
namespace Sys2Proof.Proofs
open Sys2Proof.Machine Sys2Proof.Laws

/-- A reset frame whose answers come leaves the line released, and beside it only its answers, events and response (41 R145, 43 R190). -/
theorem finish_resetFrame {s : State} (h : TransportOk 5 s) :
    finish noResult (resetFrame s) =
      afterOperation 5 (resetFrameEvents 0 s) Response.done { s with csLevel := .released } := by
  rw [resetFrame_ok h]; rfl

/-- Settles O28: its body is the reset frame, and no shadow register is written around it (decision D16). -/
theorem resetSendsTheResetFrame : Obligations.ResetSendsTheResetFrame :=
  ⟨by decide, fun _ hc h => exec_eq_next_of_body (by simp) hc (finish_resetFrame h)⟩

end Sys2Proof.Proofs
end

section
/-! The statuses of spec/60_exceptions.md that end an operation before it reaches the wire: `NotConstructed`, and what each operation with a
channel operand makes of an invalid one. -/
namespace Sys2Proof.Proofs
open Sys2Proof.Machine Sys2Proof.Laws

/-- Before `construct` every other instruction, host operation or frame, only answers `NotConstructed` (60 R238). -/
theorem exec_of_not_constructed {i : Instr} {s : State} (hi : i ≠ .construct) (hc : s.constructed = false) :
    exec i s = .next { s with response := ⟨.notConstructed, none, .nothing⟩ } := by
  rw [exec_eq_operation hi, operation_of_not_constructed hc]; rfl

/-- Settles O18: the check on `constructed` comes before the operation's body (decision D21). -/
theorem notConstructedRefusesOperations : Obligations.NotConstructedRefusesOperations := fun _ _ _ hi hc =>
  exec_of_not_constructed hi hc

/-- On a constructed block an instruction that does not go on to the wire only answers (60 R232, R233). -/
theorem exec_of_not_reachesWire {i : Instr} {s : State} (hi : i ≠ .construct) (hc : s.constructed = true)
    (hq : reachesWire i = false) : exec i s = .next { s with response := quietResponse i } :=
  exec_eq_next_of_body hi hc (body_quiet hi hq s)

/-- The operands 8 to 255 fail the check on a channel (60 R232). -/
theorem channelValid_eq_false {ch : Byte} (h : 8 ≤ ch.toNat) : channelValid ch = false :=
  decide_eq_false (Nat.not_lt.mpr h)

/-- Settles O21: an invalid index does not reach the wire, and the quiet answer of `setActiveChannel` is OK (decision D23). -/
theorem setActiveChannelIgnoresInvalid : Obligations.SetActiveChannelIgnoresInvalid := fun ch _ hc h =>
  exec_of_not_reachesWire (i := .setActiveChannel ch) (by simp) hc (channelValid_eq_false h)

/-- Settles O31: an invalid channel does not reach the wire, and the quiet answer of both readings is `InvalidChannel` (decision D13). -/
theorem readingsCheckTheirChannel : Obligations.ReadingsCheckTheirChannel := fun ch _ hc h =>
  ⟨exec_of_not_reachesWire (i := .getReadingRaw ch) (by simp) hc (channelValid_eq_false h),
    exec_of_not_reachesWire (i := .getReadingVolts ch) (by simp) hc (channelValid_eq_false h)⟩

end Sys2Proof.Proofs
end

section
/-! Encodings (spec/30_encoding.md): a command word is its three fields side by side, so what decodes from it is settled by its operation
number and its operand; a frame is settled by its length, its bracket and its first byte. -/
namespace Sys2Proof.Proofs
open Sys2Proof.Machine Sys2Proof.Laws

/-- A word is its fields `op`, `rsv` and `arg` side by side, so with `rsv` 0 it is the command word of the other two (30 R98). -/
theorem commandWord_of_fields {w : Word} (h : w.extractLsb' 8 4 = 0) :
    commandWord (w.extractLsb' 12 4) (w.extractLsb' 0 8) = .command w := by
  have hw : w.extractLsb' 12 4 ++ w.extractLsb' 8 4 ++ w.extractLsb' 0 8 = w := by
    rw [BitVec.extractLsb'_append_extractLsb'_eq_extractLsb' (by decide),
      BitVec.extractLsb'_append_extractLsb'_eq_extractLsb' (by decide), BitVec.extractLsb'_eq_self]
  rw [commandWord, ← h, hw]

/-- A command word decodes as its operation on its operand (30 R98). -/
theorem decode_commandWord (op : BitVec 4) (arg : Byte) :
    decode (commandWord op arg) = decodeOperation op.toNat arg := by
  have hrsv : (op ++ (0 : BitVec 4) ++ arg).extractLsb' 8 4 = 0 := by
    rw [BitVec.extractLsb'_append_eq_of_le (by decide), BitVec.extractLsb'_append_eq_right]
  have hop : (op ++ (0 : BitVec 4) ++ arg).extractLsb' 12 4 = op := by
    rw [BitVec.extractLsb'_append_eq_of_le (by decide), BitVec.extractLsb'_append_eq_left]
  have harg : (op ++ (0 : BitVec 4) ++ arg).extractLsb' 0 8 = arg := BitVec.extractLsb'_append_eq_right
  rw [commandWord, decode, decodeCommand, if_pos hrsv, hop, harg]

/-- Settles O1: a command word by its fields, its operand in one of the three forms of 30 R100; a frame by evaluating its fixed bytes. -/
theorem decodeInvertsEncode : Obligations.DecodeInvertsEncode := by
  intro i
  cases i with
  | writeConfigRegister | writeModeRegister | startConversion | readConversionResult | resetFrame => decide
  | construct | initializeDevice | reset => exact decode_commandWord _ 0
  | setActiveChannel a | setGain a | setUpdateRate a | getReadingRaw a | getReadingVolts a => exact decode_commandWord _ a
  | setBipolar b | setInputBuffer b | setConversionMode b | setPolarity b =>
    exact (decode_commandWord _ _).trans (decodeBoolean_booleanArg b _)

/-- What an operation without operand decodes to is that operation, and the operand was 0 (30 R102). -/
theorem encode_of_decodeNoOperand {op : BitVec 4} {arg : Byte} {i j : Instr} (hi : encode i = commandWord op 0)
    (h : decodeNoOperand arg i = .ok j) : encode j = commandWord op arg := by
  rw [decodeNoOperand] at h
  split at h
  next harg => cases h; rw [hi, harg]
  next => cases h

/-- A byte whose upper seven bits are 0 is the operand of its lowest bit (30 R100). -/
theorem booleanArg_getLsbD : ∀ arg : Byte, arg.extractLsb' 1 7 = 0 → booleanArg (arg.getLsbD 0) = arg := by decide

/-- What a boolean operation decodes to is that operation on the bit the operand is (30 R100). -/
theorem encode_of_decodeBoolean {op : BitVec 4} {arg : Byte} {i : Bool → Instr} {j : Instr}
    (hi : ∀ b, encode (i b) = commandWord op (booleanArg b)) (h : decodeBoolean arg i = .ok j) :
    encode j = commandWord op arg := by
  rw [decodeBoolean] at h
  split at h
  next harg => cases h; rw [hi, booleanArg_getLsbD arg harg]
  next => cases h

/-- The instruction an operation number and an operand decode to has them as its command word. -/
theorem encode_of_decodeOperation {op : BitVec 4} {arg : Byte} {i : Instr} (h : decodeOperation op.toNat arg = .ok i) :
    encode i = commandWord op arg := by
  have hop : ∀ {n : BitVec 4}, op.toNat = n.toNat → commandWord op arg = commandWord n arg := fun e => by
    rw [BitVec.eq_of_toNat_eq e]
  unfold decodeOperation at h
  split at h
  next e => rw [hop (n := 0) e]; exact encode_of_decodeNoOperand rfl h
  next e => rw [hop (n := 1) e]; exact encode_of_decodeNoOperand rfl h
  next e => rw [hop (n := 2) e]; exact encode_of_decodeNoOperand rfl h
  next e => cases h; exact (hop (n := 3) e).symm
  next e => cases h; exact (hop (n := 4) e).symm
  next e => rw [hop (n := 5) e]; exact encode_of_decodeBoolean (fun _ => rfl) h
  next e => rw [hop (n := 6) e]; exact encode_of_decodeBoolean (fun _ => rfl) h
  next e => cases h; exact (hop (n := 7) e).symm
  next e => rw [hop (n := 8) e]; exact encode_of_decodeBoolean (fun _ => rfl) h
  next e => cases h; exact (hop (n := 9) e).symm
  next e => cases h; exact (hop (n := 10) e).symm
  next e => rw [hop (n := 11) e]; exact encode_of_decodeBoolean (fun _ => rfl) h
  next => cases h

/-- The command word of a decoded word is that word. -/
theorem encode_of_decode_command {w : Word} {i : Instr} (h : decode (.command w) = .ok i) : encode i = .command w := by
  rw [decode, decodeCommand] at h
  split at h
  next hrsv => rw [encode_of_decodeOperation h, commandWord_of_fields hrsv]
  next => cases h

/-- Only host operations have command words: the encodings of the five frames are frames (30 R105). -/
theorem isHostOperation_of_encode {w : Word} {i : Instr} (h : encode i = .command w) : i.isHostOperation = true := by
  cases i with
  | writeConfigRegister | writeModeRegister | startConversion | readConversionResult | resetFrame =>
    exact Words.noConfusion h
  | _ => rfl

/-- Settles O3. -/
theorem commandWordHasOneMeaning : Obligations.CommandWordHasOneMeaning := fun _ _ h =>
  ⟨encode_of_decode_command h, isHostOperation_of_encode (encode_of_decode_command h)⟩

/-- The encoder forms well-formed words only. -/
theorem encode_wellFormed (i : Instr) : (encode i).wellFormed = true := by
  cases i with
  | construct => exact EncodesWellFormed.construct
  | initializeDevice => exact EncodesWellFormed.initializeDevice
  | reset => exact EncodesWellFormed.reset
  | setActiveChannel ch => exact EncodesWellFormed.setActiveChannel ch
  | setGain g => exact EncodesWellFormed.setGain g
  | setBipolar b => exact EncodesWellFormed.setBipolar b
  | setInputBuffer b => exact EncodesWellFormed.setInputBuffer b
  | setUpdateRate r => exact EncodesWellFormed.setUpdateRate r
  | setConversionMode b => exact EncodesWellFormed.setConversionMode b
  | getReadingRaw ch => exact EncodesWellFormed.getReadingRaw ch
  | getReadingVolts ch => exact EncodesWellFormed.getReadingVolts ch
  | setPolarity b => exact EncodesWellFormed.setPolarity b
  | writeConfigRegister => exact EncodesWellFormed.writeConfigRegister
  | writeModeRegister => exact EncodesWellFormed.writeModeRegister
  | startConversion => exact EncodesWellFormed.startConversion
  | readConversionResult => exact EncodesWellFormed.readConversionResult
  | resetFrame => exact EncodesWellFormed.resetFrame

/-- An assigned operation number decodes when its operand has the form that operation takes (30 R99, R102). -/
theorem decodeOperation_isOk {op : Nat} {arg : Byte} (hop : op < 12) (hnone : op ∈ [0, 1, 2] → arg = 0)
    (hbool : op ∈ [5, 6, 8, 11] → arg.extractLsb' 1 7 = 0) : ∃ i, decodeOperation op arg = .ok i := by
  match op, hop with
  | 0, _ | 1, _ | 2, _ => exact ⟨_, if_pos (hnone (by decide))⟩
  | 3, _ | 4, _ | 7, _ | 9, _ | 10, _ => exact ⟨_, rfl⟩
  | 5, _ | 6, _ | 8, _ | 11, _ => exact ⟨_, if_pos (hbool (by decide))⟩

/-- 30 R102's four conditions, each as it bears on the decoder. -/
theorem commandWellFormed_iff (w : Word) : commandWellFormed w = true ↔
    (opField w).toNat < 12 ∧ rsvField w = 0 ∧ ((opField w).toNat ∈ [0, 1, 2] → argField w = 0) ∧
      ((opField w).toNat ∈ [5, 6, 8, 11] → (argField w).extractLsb' 1 7 = 0) := by
  simp [commandWellFormed, opAssigned, rsvZero, noOperandOk, opHasNoOperand, booleanOk, opHasBoolean, and_assoc,
    imp_iff_not_or]

/-- Settles O2: a decoded word is an encoding, and so well formed; of a well-formed word the operation is assigned and takes the operand. -/
theorem commandDecodesIffWellFormed : Obligations.CommandDecodesIffWellFormed := by
  refine fun w => ⟨fun ⟨i, h⟩ => ?_, fun h => ?_⟩
  · have hi := encode_wellFormed i
    rwa [encode_of_decode_command h] at hi
  · obtain ⟨hop, hrsv, hnone, hbool⟩ := (commandWellFormed_iff w).mp h
    rw [← commandWord_of_fields hrsv, decode_commandWord]
    exact decodeOperation_isOk hop hnone hbool

/-- A frame decodes to one of the five frames. -/
theorem isHostOperation_of_decodeFrame {b : Bracket} {bytes : List Byte} {i : Instr} (h : decodeFrame b bytes = .ok i) :
    i.isHostOperation = false := by
  unfold decodeFrame decodeWriteFrame decodeLongFrame at h
  repeat' split at h
  all_goals cases h <;> rfl

/-- A check passed gives an instruction; not passed, what follows it must. -/
theorem exists_ite_eq_ok (c : Prop) [Decidable c] (j : Instr) (f : Except DecodeError Instr) :
    (∃ i, (if c then .ok j else f) = .ok i) ↔ c ∨ ∃ i, f = .ok i := by
  by_cases hc : c <;> simp [hc]

/-- A frame decodes exactly when it is well formed: the checks of its length and bracket are those of its form, first byte first. -/
theorem decodeFrame_isOk_iff (b : Bracket) (bytes : List Byte) :
    (∃ i, decodeFrame b bytes = .ok i) ↔ frameWellFormed b bytes = true := by
  match bytes with
  | [cmd, _, _] =>
    cases b <;> simp [decodeFrame, decodeWriteFrame, frameWellFormed, exists_ite_eq_ok, Config.resetByteCount]
  | [b0, b1, b2, b3] =>
    cases b <;> simp [decodeFrame, decodeLongFrame, frameWellFormed, exists_ite_eq_ok, Config.resetByteCount]
  | [] | [_] | [_, _] | _ :: _ :: _ :: _ :: _ :: _ => simp [decodeFrame, frameWellFormed, Config.resetByteCount]

/-- Settles O4. -/
theorem frameDecodesIffWellFormed : Obligations.FrameDecodesIffWellFormed := fun b bytes =>
  (exists_congr fun _ => and_iff_left_of_imp isHostOperation_of_decodeFrame).trans (decodeFrame_isOk_iff b bytes)

/-- Words of either layer decode exactly when they are well formed. -/
theorem decode_isOk_iff (words : Words) : (∃ i, decode words = .ok i) ↔ words.wellFormed = true :=
  match words with
  | .command w => commandDecodesIffWellFormed w
  | .frame b bytes => decodeFrame_isOk_iff b bytes

/-- Settles O5: the decoder evaluated on the words of 30 R104 and of the vectors. -/
theorem specWordsDecode : Obligations.SpecWordsDecode := by
  unfold Obligations.SpecWordsDecode
  decide

end Sys2Proof.Proofs
end

section
/-! What an instruction leaves when its answers come, for all instructions at once: the statements about single operations and frames
(spec/41_wire_primitives.md to spec/44_calibration_converter.md) are its instances. -/
namespace Sys2Proof.Proofs
open Sys2Proof.Machine Sys2Proof.Laws

/-- The voltage of a reading of channel `ch` whose answers come (44 R214), after as many free answers as it took. -/
def voltsOf (ch : Channel) (s : State) : Volts :=
  if voltsDefined s.vRef (entryOf ch s).gain then
    rawToVolts Config.numerics (widenRaw (rawAt 8 s)).toNat s.vRef (entryOf ch s).gain.toNat (entryOf ch s).isUnipolar
  else Config.freeVolts (s.drawCount + (12 - s.answers.length))

/-- The result of an instruction that runs through (30 R101, 41 R144). -/
def okResult (i : Instr) (s : State) : Result :=
  match i with
  | .getReadingRaw _ => .raw (widenRaw (rawAt 8 s))
  | .getReadingVolts ch => .volts (voltsOf (channelIndex ch) s)
  | .readConversionResult => .raw24 (rawAt 0 s)
  | .construct | .initializeDevice | .reset | .setActiveChannel _ | .setGain _ | .setBipolar _ | .setInputBuffer _
  | .setUpdateRate _ | .setConversionMode _ | .setPolarity _ | .writeConfigRegister | .writeModeRegister
  | .startConversion | .resetFrame => .nothing

/-- How many free voltages an instruction that runs through takes (44 R216). -/
def freeVoltsTaken (i : Instr) (s : State) : Nat :=
  match i with
  | .getReadingVolts ch => if voltsDefined s.vRef (entryOf (channelIndex ch) s).gain then 0 else 1
  | .construct | .initializeDevice | .reset | .setActiveChannel _ | .setGain _ | .setBipolar _ | .setInputBuffer _
  | .setUpdateRate _ | .setConversionMode _ | .getReadingRaw _ | .setPolarity _ | .writeConfigRegister
  | .writeModeRegister | .startConversion | .readConversionResult | .resetFrame => 0

/-- The line when an instruction has run through: as its events leave it. -/
def levelWhenDone (i : Instr) (s : State) : CsLevel := levelAfter s.csLevel (wireEvents i s)

/-- What an instruction leaves that runs through: its shadow, its events and its result, all else as it was. -/
def completed (i : Instr) (s : State) : State :=
  { afterOperation (answersNeeded i) (wireEvents i s) ⟨.ok, none, okResult i s⟩ (shadowAfter i s) with
    csLevel := levelWhenDone i s,
    drawCount := s.drawCount + (answersNeeded i - s.answers.length) + freeVoltsTaken i s }

/-- An instruction that reaches the wire and whose answers come runs through. -/
theorem body_eq_completed {i : Instr} {s : State} (hq : reachesWire i = true) (h : TransportOk (answersNeeded i) s) :
    body i s = completed i s := by
  cases i with
  | construct | setInputBuffer _ => exact Bool.noConfusion hq
  | initializeDevice =>
    rw [completed, levelWhenDone]
    simp only [wireEvents, levelAfter_bootEvents]
    rw [body, bootSequence_ok h]; rfl
  | reset | resetFrame => rw [body, resetFrame_ok h]; rfl
  | setActiveChannel ch => rw [body, if_pos (show channelValid ch = true from hq), selectChannel_ok _ h]; rfl
  | setGain | setBipolar | setPolarity => rw [body, setter_ok _ h]; rfl
  | setUpdateRate r =>
    exact congrArg (finish noResult) (writeModeRegister_ok (s := shadowAfter (.setUpdateRate r) s) h)
  | setConversionMode b =>
    exact congrArg (finish noResult) (writeModeRegister_ok (s := shadowAfter (.setConversionMode b) s) h)
  | writeConfigRegister => rw [body, writeConfigRegister_ok h]; rfl
  | writeModeRegister => rw [body, writeModeRegister_ok h]; rfl
  | startConversion => rw [body, startConversion_ok h]; rfl
  | readConversionResult =>
    rw [completed, levelWhenDone]
    simp only [wireEvents, levelAfter_readXfers]
    rw [body, readConversionResult_ok h]; rfl
  | getReadingRaw ch =>
    rw [completed, levelWhenDone]
    simp only [wireEvents, levelAfter_readingEvents]
    rw [body, if_pos (show channelValid ch = true from hq), reading_ok _ h]; rfl
  | getReadingVolts ch =>
    rw [completed, levelWhenDone]
    simp only [wireEvents, levelAfter_readingEvents, okResult, voltsOf, freeVoltsTaken]
    rw [body, if_pos (show channelValid ch = true from hq), reading_ok _ h, andThen_done, convert]
    cases hv : voltsDefined s.vRef (entryOf (channelIndex ch) s).gain with
    | true => rw [if_pos (by exact hv)]; rfl
    | false => rw [if_neg (by exact fun ht => Bool.noConfusion (hv.symm.trans ht))]; rfl

/-- `construct` emits nothing (42 R160). -/
theorem ne_construct_of_reachesWire {i : Instr} (h : reachesWire i = true) : i ≠ .construct := by
  rintro rfl; exact Bool.noConfusion h

/-- The same of the instruction issued on a constructed block. -/
theorem exec_eq_completed {i : Instr} {s : State} (hc : s.constructed = true) (hq : reachesWire i = true)
    (h : TransportOk (answersNeeded i) s) : exec i s = .next (completed i s) :=
  exec_eq_next_of_body (ne_construct_of_reachesWire hq) hc (body_eq_completed hq h)

end Sys2Proof.Proofs
end

section
/-! The wire frames, the selection of a channel, the bootstrap and the readings when their answers come (spec/41_wire_primitives.md to
spec/44_calibration_converter.md): instances of `exec_eq_completed`. -/
namespace Sys2Proof.Proofs
open Sys2Proof.Machine Sys2Proof.Laws

/-- Settles O36. -/
theorem writeConfigFrame : Obligations.WriteConfigFrame := fun _ hc h => exec_eq_completed hc rfl h

/-- Settles O37. -/
theorem writeModeFrame : Obligations.WriteModeFrame := fun _ hc h => exec_eq_completed hc rfl h

/-- Settles O38: the frame's events end without `CS(high)`. -/
theorem startConversionHoldsChipSelect : Obligations.StartConversionHoldsChipSelect := fun _ hc h =>
  exec_eq_completed hc rfl h

/-- Settles O40. -/
theorem resetFrameSendsFourBytesOfOnes : Obligations.ResetFrameSendsFourBytesOfOnes := fun _ hc h =>
  exec_eq_completed hc rfl h

/-- The line after the read frame: released in single mode, else as it was (41 R144). -/
theorem levelWhenDone_readConversionResult (s : State) :
    levelWhenDone .readConversionResult s = if s.singleConversionMode then .released else s.csLevel :=
  levelAfter_readXfers s

/-- The line after the bootstrap: its last frame releases it (43 R192). -/
theorem levelWhenDone_initializeDevice (s : State) : levelWhenDone .initializeDevice s = .released :=
  levelAfter_bootEvents _ s

/-- The line after a reading: released in single mode, else asserted (43 R194). -/
theorem levelWhenDone_getReadingRaw (ch : Byte) (s : State) :
    levelWhenDone (.getReadingRaw ch) s = if s.singleConversionMode then .released else .asserted :=
  levelAfter_readingEvents _ _ s

theorem levelWhenDone_getReadingVolts (ch : Byte) (s : State) :
    levelWhenDone (.getReadingVolts ch) s = if s.singleConversionMode then .released else .asserted :=
  levelAfter_readingEvents _ _ s

/-- Settles O39: the mode decides the frame's last event and with it the line. -/
theorem readConversionResultIsBigEndian : Obligations.ReadConversionResultIsBigEndian := fun s hc h =>
  (exec_eq_completed (i := .readConversionResult) hc rfl h).trans
    (by rw [completed, levelWhenDone_readConversionResult]; rfl)

/-- Settles O20: the shadow and the frame are those of `withChannel`. -/
theorem setActiveChannelSelects : Obligations.SetActiveChannelSelects := fun _ _ hc hch h =>
  exec_eq_completed hc (decide_eq_true hch) h

/-- Settles O29: the wait is its lower bound and some slack; the loop ends with channel 0 selected, as `bootSequence_ok` says. -/
theorem bootstrapConfiguresAnalogChannels : Obligations.BootstrapConfiguresAnalogChannels :=
  ⟨by decide, Nat.le_add_right _ _, fun s hc h =>
    (exec_eq_completed (i := .initializeDevice) hc rfl h).trans
      (by rw [completed, levelWhenDone_initializeDevice]; rfl)⟩

/-- Settles O30. -/
theorem readingRawRunsTheSequence : Obligations.ReadingRawRunsTheSequence := fun ch _ hc hch h =>
  (exec_eq_completed (i := .getReadingRaw ch) hc (decide_eq_true hch) h).trans
    (by rw [completed, levelWhenDone_getReadingRaw]; rfl)

/-- A reading in volts, with the voltage and the free values it takes still as the model says them. -/
theorem exec_getReadingVolts {ch : Byte} {s : State} (hc : s.constructed = true) (hch : ch.toNat < 8)
    (h : TransportOk 12 s) : exec (.getReadingVolts ch) s = .next
      { afterOperation 12 (readingEvents (configWordOf (channelIndex ch) s) s)
          ⟨.ok, none, .volts (voltsOf (channelIndex ch) s)⟩ (withChannel (channelIndex ch) s) with
        csLevel := if s.singleConversionMode then .released else .asserted,
        drawCount := s.drawCount + (12 - s.answers.length) + freeVoltsTaken (.getReadingVolts ch) s } :=
  (exec_eq_completed (i := .getReadingVolts ch) hc (decide_eq_true hch) h).trans
    (by rw [completed, levelWhenDone_getReadingVolts]; rfl)

/-- A conversion in the OPEN arithmetic, on numbers that `ofNat` holds exactly (44 R212). -/
theorem rawToVolts_numerics {raw gain : Nat} (hraw : raw < 4294967296) (hgain : gain < 4294967296) (v : Volts) (u : Bool) :
    rawToVolts Config.numerics raw v gain u =
      let N := Config.numerics
      if u then N.div (N.mul (.finite raw) v) (N.mul (.finite 16777216) (.finite gain))
      else N.div (N.mul (N.sub (N.div (.finite raw) (.finite 8388608)) (.finite 1)) v) (.finite gain) := by
  have hu : Config.numerics.ofNat 16777216 = .finite 16777216 := numerics_admissible _ (by decide)
  have hb : Config.numerics.ofNat 8388608 = .finite 8388608 := numerics_admissible _ (by decide)
  have h1 : Config.numerics.ofNat 1 = .finite 1 := by simpa using numerics_admissible 1 (by decide)
  rw [rawToVolts, Config.fullScaleUnipolar, Config.fullScaleBipolar, numerics_admissible raw hraw,
    numerics_admissible gain hgain, hu, hb, h1]

/-- Settles O32: with both operands in their domain the voltage is `rawToVolts`, whose operands are exact. -/
theorem readingVoltsAppliesTheTransferFunction : Obligations.ReadingVoltsAppliesTheTransferFunction := by
  intro ch q s hc hch hq hpos h a c w N r g v hgain
  have hd : voltsDefined s.vRef (entryOf (channelIndex ch) s).gain = true := by
    rw [voltsDefined, Bool.and_eq_true, hq]
    exact ⟨bne_iff_ne.mpr hgain, decide_eq_true hpos⟩
  have hraw : (widenRaw (rawAt 8 s)).toNat = (rawAt 8 s).toNat :=
    BitVec.toNat_setWidth_of_le (by decide)
  have hv : voltsOf (channelIndex ch) s = v := by
    rw [voltsOf, if_pos hd, hraw, hq, rawToVolts_numerics (by have := (rawAt 8 s).isLt; omega)
      (Nat.lt_trans (BitVec.isLt _) (by decide))]
    rfl
  have hk : freeVoltsTaken (.getReadingVolts ch) s = 0 := if_pos hd
  rw [exec_getReadingVolts hc hch h, hv, hk]
  rfl

/-- Settles O33: with an operand outside its domain one free value is taken, the next after the reading's answers. -/
theorem undefinedVoltsAreFree : Obligations.UndefinedVoltsAreFree := by
  intro ch s hc hch h a w n hbad
  have hd : ¬ voltsDefined s.vRef (entryOf (channelIndex ch) s).gain = true := by
    rw [voltsDefined, Bool.and_eq_true, not_and_or]
    exact hbad.imp (fun hg => by rw [show (entryOf (channelIndex ch) s).gain = 0 from hg]; decide) (by simp [·])
  have hv : voltsOf (channelIndex ch) s = Config.freeVolts n := if_neg hd
  have hk : freeVoltsTaken (.getReadingVolts ch) s = 1 := if_neg hd
  rw [exec_getReadingVolts hc hch h, hv, hk]
  rfl

end Sys2Proof.Proofs
end

section
/-! The calibration converter over the rationals (spec/44_calibration_converter.md R211, R213): both polarities as one formula each, and
everything else as rational arithmetic on them. -/
namespace Sys2Proof.Proofs
open Sys2Proof.Machine

/-- The unipolar formula (44 R211). -/
theorem rawToVolts_exact_unipolar (raw gain : Nat) (vRef : Rat) :
    rawToVolts Numerics.exact raw vRef gain true = ((raw : Rat) * vRef) / (16777216 * (gain : Rat)) := by
  simp [rawToVolts, Numerics.exact, Config.fullScaleUnipolar]

/-- The bipolar formula (44 R211). -/
theorem rawToVolts_exact_bipolar (raw gain : Nat) (vRef : Rat) :
    rawToVolts Numerics.exact raw vRef gain false = ((raw : Rat) / 8388608 - 1) * vRef / (gain : Rat) := by
  simp [rawToVolts, Numerics.exact, Config.fullScaleBipolar]

/-- A gain of at least 1 is a positive rational. -/
theorem gain_cast_pos {gain : Nat} (h : 1 ≤ gain) : (0 : Rat) < gain := by exact_mod_cast h

/-- The unipolar formula is the code's share of full scale, times `vRef / gain`. -/
theorem unipolar_eq_mul (raw gain : Nat) (vRef : Rat) :
    rawToVolts Numerics.exact raw vRef gain true = vRef / gain * (raw / 16777216) := by
  rw [rawToVolts_exact_unipolar]; ring

/-- The bipolar formula likewise, half of full scale being 0 V. -/
theorem bipolar_eq_mul (raw gain : Nat) (vRef : Rat) :
    rawToVolts Numerics.exact raw vRef gain false = vRef / gain * (raw / 8388608 - 1) := by
  rw [rawToVolts_exact_bipolar]; ring

/-- One code is `vRef / gain` times one part of full scale, whatever the code (44 R211). -/
theorem unipolar_code_step (raw gain : Nat) (vRef : Rat) :
    rawToVolts Numerics.exact (raw + 1) vRef gain true - rawToVolts Numerics.exact raw vRef gain true =
      vRef / (16777216 * (gain : Rat)) := by
  rw [unipolar_eq_mul, unipolar_eq_mul]; push_cast; ring

theorem bipolar_code_step (raw gain : Nat) (vRef : Rat) :
    rawToVolts Numerics.exact (raw + 1) vRef gain false - rawToVolts Numerics.exact raw vRef gain false =
      vRef / (8388608 * (gain : Rat)) := by
  rw [bipolar_eq_mul, bipolar_eq_mul]; push_cast; ring

/-- The ranges of the two polarities for a 24-bit code: the factor beside `vRef / gain` lies between those of the least and the greatest
code (44 R211). -/
theorem rawToVolts_exact_range {raw gain : Nat} {vRef : Rat} (hraw : raw ≤ 16777215) (hgain : 1 ≤ gain) (hv : 0 < vRef) :
    0 ≤ rawToVolts Numerics.exact raw vRef gain true ∧
    rawToVolts Numerics.exact raw vRef gain true ≤ vRef / (gain : Rat) * (1 - 1 / 16777216) ∧
    -vRef / (gain : Rat) ≤ rawToVolts Numerics.exact raw vRef gain false ∧
    rawToVolts Numerics.exact raw vRef gain false ≤ vRef / (gain : Rat) * (1 - 1 / 8388608) := by
  have hscale : 0 ≤ vRef / gain := (div_pos hv (gain_cast_pos hgain)).le
  have hlo : (0 : Rat) ≤ raw := Nat.cast_nonneg raw
  have hhi : (raw : Rat) ≤ 16777215 := by exact_mod_cast hraw
  rw [unipolar_eq_mul, bipolar_eq_mul, show -vRef / (gain : Rat) = vRef / gain * (-1) by ring]
  refine ⟨mul_nonneg hscale (by linarith), ?_, ?_, ?_⟩ <;> exact mul_le_mul_of_nonneg_left (by linarith) hscale

/-- Settles O34. -/
theorem exactConversionFormulaAndRanges : Obligations.ExactConversionFormulaAndRanges :=
  ⟨fun raw gain vRef => ⟨rawToVolts_exact_unipolar raw gain vRef, rawToVolts_exact_bipolar raw gain vRef⟩,
    fun _ _ _ => rawToVolts_exact_range,
    fun raw gain vRef _ => ⟨unipolar_code_step raw gain vRef, bipolar_code_step raw gain vRef⟩⟩

/-- A greater code gives a greater voltage, in both polarities (44 R213). -/
theorem rawToVolts_exact_strictMono {raw raw' gain : Nat} {vRef : Rat} (u : Bool) (hgain : 1 ≤ gain) (hv : 0 < vRef)
    (hraw : raw < raw') : rawToVolts Numerics.exact raw vRef gain u < rawToVolts Numerics.exact raw' vRef gain u := by
  have hscale : 0 < vRef / gain := div_pos hv (gain_cast_pos hgain)
  have hlt : (raw : Rat) < raw' := by exact_mod_cast hraw
  cases u with
  | true => rw [unipolar_eq_mul, unipolar_eq_mul]; exact mul_lt_mul_of_pos_left (by linarith) hscale
  | false => rw [bipolar_eq_mul, bipolar_eq_mul]; exact mul_lt_mul_of_pos_left (by linarith) hscale

/-- Settles O35: its numbers are the two formulas at fixed codes. -/
theorem converterProperties : Obligations.ConverterProperties := by
  refine ⟨?_, ?_, fun gain vRef _ => ⟨?_, ?_, ?_⟩, fun _ _ _ _ u => rawToVolts_exact_strictMono u, fun raw gain vRef _ => ?_⟩
  · norm_num [unipolar_eq_mul]
  · norm_num [bipolar_eq_mul]
  · norm_num [bipolar_eq_mul]
  · rw [bipolar_eq_mul, Nat.cast_zero]; ring
  · norm_num [unipolar_eq_mul]
  · rw [bipolar_eq_mul, unipolar_eq_mul]; ring

end Sys2Proof.Proofs
end

section
/-! Steps (spec/20_memory.md R72): the issue taken, decoded and run, or answered with `IllegalCommand`; and what holds of every step because
it holds of each of these. -/
namespace Sys2Proof.Proofs
open Sys2Proof.Machine Sys2Proof.Laws

/-- A step on an issue that decodes. -/
theorem step_of_decodes {s : State} {iss : Issue} {rest : List Issue} {i : Instr} (hp : s.pending = iss :: rest)
    (hd : decode iss.words = .ok i) : step s = exec i (beginIssue iss rest s) := by
  rw [step, hp]
  simp only [hd]

/-- A step on an issue that does not decode. -/
theorem step_of_illegal {s : State} {iss : Issue} {rest : List Issue} {e : DecodeError} (hp : s.pending = iss :: rest)
    (hd : decode iss.words = .error e) : step s = .next (illegalCommand (beginIssue iss rest s)) := by
  rw [step, hp]
  simp only [hd]

theorem step_of_idle {s : State} (hp : s.pending = []) : step s = .next s := by rw [step, hp]

/-- What every instruction keeps, and the port's own changes keep, every step keeps. -/
theorem step_keeps {P : State → Prop} (hbegin : ∀ iss rest s, P s → P (beginIssue iss rest s))
    (hillegal : ∀ s, P s → P (illegalCommand s)) (hexec : ∀ i s t, P s → exec i s = .next t → P t)
    {s t : State} (hs : P s) (h : step s = .next t) : P t := by
  cases hp : s.pending with
  | nil =>
    rw [step_of_idle hp] at h
    cases h; exact hs
  | cons iss rest =>
    cases hd : decode iss.words with
    | ok i => exact hexec i _ t (hbegin iss rest s hs) (step_of_decodes hp hd ▸ h)
    | error e =>
      rw [step_of_illegal hp hd] at h
      cases h; exact hillegal _ (hbegin iss rest s hs)

/-- Settles O6. -/
theorem stepRunsDecodedIssue : Obligations.StepRunsDecodedIssue := fun _ _ _ _ => step_of_decodes

/-- Settles O7: placing the words and beginning their issue leave the state as it was. -/
theorem fetchedWordRuns : Obligations.FetchedWordRuns := by
  intro s nbits w i h
  cases hw : tableWords nbits w with
  | none => simp [decodeTableWord, hw] at h
  | some words =>
    cases hd : decode words with
    | error e => simp [decodeTableWord, hw, hd] at h
    | ok j =>
      obtain rfl : j = i := by simpa [decodeTableWord, hw, hd] using h
      rw [State.withFetchWord, hw]
      exact step_of_decodes (iss := ⟨words, s.sideInputs⟩) (rest := s.pending) rfl hd

/-- Settles O8. -/
theorem idleStepChangesNothing : Obligations.IdleStepChangesNothing := fun _ => step_of_idle

/-- Settles O10: `construct` and `operation` both answer a next state. -/
theorem everyInstructionAnswers : Obligations.EveryInstructionAnswers := by
  intro i s
  by_cases hi : i = .construct
  · subst hi; exact ⟨_, rfl⟩
  · exact ⟨_, exec_eq_operation hi s⟩

end Sys2Proof.Proofs
end

section
/-! What an instruction leaves of the shadow (spec/10_state.md R20 to R30): `run_of_exec` read for the registers alone. Every invariant and
every rule on who writes what follows from the three shadows of `Reached`. -/
namespace Sys2Proof.Proofs
open Sys2Proof.Machine Sys2Proof.Laws

/-- The registers of `t` that only the shadow updates write are those of `b`. -/
structure SameShadow (b t : State) : Prop where
  csLine : t.csLine = b.csLine
  busFrequency : t.busFrequency = b.busFrequency
  vRef : t.vRef = b.vRef
  modeRegister : t.modeRegister = b.modeRegister
  configRegister : t.configRegister = b.configRegister
  activeChannel : t.activeChannel = b.activeChannel
  singleConversionMode : t.singleConversionMode = b.singleConversionMode
  channels : t.channels = b.channels
  constructed : t.constructed = b.constructed

/-- The shadows an instruction other than `construct` can leave: the one it found; the one it writes when it runs through; and,
aborted in the bootstrap, the one with the channel of a pass selected. -/
inductive Reached (i : Instr) (s : State) : State → Prop
  | kept : Reached i s s
  | written : Reached i s (shadowAfter i s)
  | selected (hi : i = .initializeDevice) (ch : Channel) : Reached i s (withChannel ch s)

/-- Every instruction other than `construct` leaves one of these. -/
theorem reached_of_exec {i : Instr} {s t : State} (hi : i ≠ .construct) (h : exec i s = .next t) :
    ∃ b, Reached i s b ∧ SameShadow b t := by
  cases run_of_exec h with
  | constructs hi' => exact absurd hi' hi
  | answers _ r ht => exact ⟨s, .kept, by subst ht; constructor <;> rfl⟩
  | runs _ _ _ _ r k ht => exact ⟨_, .written, by subst ht; constructor <;> rfl⟩
  | fails _ _ _ _ es ht =>
    obtain ⟨_, _, _, _, _, _, _, rfl⟩ := ht
    exact ⟨_, shadowAtFailure_elim (Reached i s) _ .written .kept fun hi ch => .selected hi ch,
      by constructor <;> rfl⟩

/-- What `construct` leaves (42 R160). -/
def afterConstruct (s : State) : State :=
  { s with
    csLine := s.sideInputs.csLine, busFrequency := s.sideInputs.busFrequency, vRef := s.sideInputs.vRef,
    modeRegister := defaultMode, configRegister := 0x0010, activeChannel := 0, singleConversionMode := true,
    channels := defaultChannels, constructed := true, fault := false, txnDepth := 0, response := Response.done }

theorem eq_afterConstruct {s t : State} (h : exec .construct s = .next t) : t = afterConstruct s := by
  have hc := constructResetsTheBlock.2 s
  rw [← defaultMode_eq, h] at hc
  exact Host.Outcome.next.inj hc

/-! ### Who writes what (10 R40) -/

/-- Settles O53: no shadow update writes the latched side inputs. -/
theorem sideInputsLatchedUntilConstruct : Obligations.SideInputsLatchedUntilConstruct := by
  intro i s t hi h
  obtain ⟨b, hb, hsame⟩ := reached_of_exec hi h
  rw [hsame.csLine, hsame.busFrequency, hsame.vRef]
  cases hb with
  | kept | selected => exact ⟨rfl, rfl, rfl⟩
  | written => cases i <;> exact ⟨rfl, rfl, rfl⟩

theorem writer_of_modeRegister {i : Instr} {s b : State} (h : Reached i s b) (hne : b.modeRegister ≠ s.modeRegister) :
    (∃ r, i = .setUpdateRate r) ∨ ∃ v, i = .setConversionMode v := by
  cases h with
  | kept | selected => exact absurd rfl hne
  | written =>
    cases i with
    | setUpdateRate r => exact .inl ⟨r, rfl⟩
    | setConversionMode v => exact .inr ⟨v, rfl⟩
    | _ => exact absurd rfl hne

theorem writer_of_singleConversionMode {i : Instr} {s b : State} (h : Reached i s b)
    (hne : b.singleConversionMode ≠ s.singleConversionMode) : ∃ v, i = .setConversionMode v := by
  cases h with
  | kept | selected => exact absurd rfl hne
  | written =>
    cases i with
    | setConversionMode v => exact ⟨v, rfl⟩
    | _ => exact absurd rfl hne

theorem writer_of_activeChannel {i : Instr} {s b : State} (h : Reached i s b)
    (hne : b.activeChannel ≠ s.activeChannel) :
    i = .initializeDevice ∨ (∃ ch, i = .setActiveChannel ch) ∨ isReading i = true := by
  cases h with
  | kept => exact absurd rfl hne
  | selected hi => exact .inl hi
  | written =>
    cases i with
    | initializeDevice => exact .inl rfl
    | setActiveChannel ch => exact .inr (.inl ⟨ch, rfl⟩)
    | getReadingRaw | getReadingVolts => exact .inr (.inr rfl)
    | _ => exact absurd rfl hne

theorem writer_of_channels {i : Instr} {s b : State} (h : Reached i s b) (hne : b.channels ≠ s.channels) :
    (∃ g, i = .setGain g) ∨ (∃ v, i = .setBipolar v) ∨ ∃ v, i = .setPolarity v := by
  cases h with
  | kept | selected => exact absurd rfl hne
  | written =>
    cases i with
    | setGain g => exact .inl ⟨g, rfl⟩
    | setBipolar v => exact .inr (.inl ⟨v, rfl⟩)
    | setPolarity v => exact .inr (.inr ⟨v, rfl⟩)
    | _ => exact absurd rfl hne

theorem writer_of_configRegister {i : Instr} {s b : State} (h : Reached i s b)
    (hne : b.configRegister ≠ s.configRegister) :
    i = .initializeDevice ∨ (∃ ch, i = .setActiveChannel ch) ∨ isReading i = true ∨
      (∃ g, i = .setGain g) ∨ (∃ v, i = .setBipolar v) ∨ ∃ v, i = .setPolarity v := by
  cases h with
  | kept => exact absurd rfl hne
  | selected hi => exact .inl hi
  | written =>
    cases i with
    | initializeDevice => exact .inl rfl
    | setActiveChannel ch => exact .inr (.inl ⟨ch, rfl⟩)
    | getReadingRaw | getReadingVolts => exact .inr (.inr (.inl rfl))
    | setGain g => exact .inr (.inr (.inr (.inl ⟨g, rfl⟩)))
    | setBipolar v => exact .inr (.inr (.inr (.inr (.inl ⟨v, rfl⟩))))
    | setPolarity v => exact .inr (.inr (.inr (.inr (.inr ⟨v, rfl⟩))))
    | _ => exact absurd rfl hne

theorem constructed_of_reached {i : Instr} {s b : State} (h : Reached i s b) : b.constructed = s.constructed := by
  cases h with
  | kept | selected => rfl
  | written => cases i <;> rfl

/-- The line is driven only by an instruction that reaches the wire (10 R31). -/
theorem writer_of_csLevel {i : Instr} {s t : State} (h : exec i s = .next t) (hne : t.csLevel ≠ s.csLevel) :
    i ≠ .construct ∧ reachesWire i = true := by
  cases run_of_exec h with
  | constructs hi => subst hi; rw [eq_afterConstruct h] at hne; exact absurd rfl hne
  | answers _ r ht => subst ht; exact absurd rfl hne
  | runs hi _ hw | fails hi _ hw => exact ⟨hi, hw⟩

/-- Settles O54: `construct` writes every register but the line; of any other instruction each register's writers are read off the
shadows it can leave. -/
theorem onlyTheirWritersChangeRegisters : Obligations.OnlyTheirWritersChangeRegisters := by
  intro i s t h
  have hcs : t.csLevel ≠ s.csLevel → i ≠ .construct ∧ ∀ v, i ≠ .setInputBuffer v := fun hne => by
    obtain ⟨hi, hw⟩ := writer_of_csLevel h hne
    exact ⟨hi, by rintro v rfl; exact Bool.noConfusion hw⟩
  by_cases hi : i = .construct
  · exact ⟨fun _ => .inl hi, fun _ => .inl hi, fun _ => .inl hi, fun _ => .inl hi, fun _ => .inl hi, fun _ => hi, hcs⟩
  · obtain ⟨b, hb, hsame⟩ := reached_of_exec hi h
    rw [hsame.modeRegister, hsame.singleConversionMode, hsame.activeChannel, hsame.channels, hsame.configRegister,
      hsame.constructed]
    exact ⟨fun hne => .inr (writer_of_modeRegister hb hne), fun hne => .inr (writer_of_singleConversionMode hb hne),
      fun hne => .inr (writer_of_activeChannel hb hne), fun hne => .inr (writer_of_channels hb hne),
      fun hne => .inr (writer_of_configRegister hb hne), fun hne => absurd (constructed_of_reached hb) hne, hcs⟩

/-! ### The channel file (10 R27, R39) -/

/-- The active entry as a setter writes it (42 R164 to R168). -/
def entryWritten (i : Instr) (s : State) : ChannelConfig :=
  match i with
  | .setGain g => { activeEntry s with gain := g }
  | .setBipolar _ => { activeEntry s with isUnipolar := false }
  | .setPolarity b => { activeEntry s with isUnipolar := !b }
  | .construct | .initializeDevice | .reset | .setActiveChannel _ | .setInputBuffer _ | .setUpdateRate _
  | .setConversionMode _ | .getReadingRaw _ | .getReadingVolts _ | .writeConfigRegister | .writeModeRegister
  | .startConversion | .readConversionResult | .resetFrame => activeEntry s

theorem entryOf_congr {s t : State} (h : t.channels = s.channels) (ch : Channel) : entryOf ch t = entryOf ch s := by
  simp [entryOf, h]

/-- A write to the active entry changes that entry at most. -/
theorem entryOf_withEntry (c : ChannelConfig) (ch : Channel) (s : State) :
    entryOf ch (withEntry c s) = entryOf ch s ∨ (ch = s.activeChannel ∧ entryOf ch (withEntry c s) = c) := by
  by_cases hch : ch = s.activeChannel
  · exact .inr ⟨hch, by simp [entryOf, withEntry, hch]⟩
  · exact .inl (entryOf_withEntry_of_ne hch c)

/-- An entry is as it was, or it is the active one as a setter writes it. -/
theorem entryOf_of_reached {i : Instr} {s b : State} (h : Reached i s b) (ch : Channel) :
    entryOf ch b = entryOf ch s ∨ (ch = s.activeChannel ∧ entryOf ch b = entryWritten i s) := by
  cases h with
  | kept | selected => exact .inl rfl
  | written =>
    cases i with
    | setGain | setBipolar | setPolarity => exact entryOf_withEntry _ ch s
    | _ => exact .inl rfl

/-- Settles O55. -/
theorem settersTouchTheActiveEntryOnly : Obligations.SettersTouchTheActiveEntryOnly := by
  intro i s t hi h ch hne
  obtain ⟨b, hb, hsame⟩ := reached_of_exec hi h
  rw [entryOf_congr hsame.channels]
  exact (entryOf_of_reached hb ch).resolve_right fun ⟨hch, _⟩ => hne hch

/-- What holds of every entry of the channel file, of the default one and of what a setter writes still holds of every entry after an
instruction. -/
theorem forall_entryOf_of_exec {P : ChannelConfig → Prop} {i : Instr} {s t : State} (hdefault : P .default)
    (hwritten : P (activeEntry s) → P (entryWritten i s)) (h : exec i s = .next t) (hs : ∀ ch, P (entryOf ch s))
    (ch : Channel) : P (entryOf ch t) := by
  by_cases hi : i = .construct
  · subst hi
    rw [eq_afterConstruct h]
    simpa [entryOf, afterConstruct, defaultChannels] using hdefault
  · obtain ⟨b, hb, hsame⟩ := reached_of_exec hi h
    rw [entryOf_congr hsame.channels]
    rcases entryOf_of_reached hb ch with he | ⟨_, he⟩
    · rw [he]; exact hs ch
    · rw [he]; exact hwritten (hs s.activeChannel)

/-- Settles O51: of the setters only `setPolarity` can write `isUnipolar` true. -/
theorem onlySetPolarityMakesUnipolar : Obligations.OnlySetPolarityMakesUnipolar := by
  intro i s t hi h hs
  refine forall_entryOf_of_exec (P := fun c => c.isUnipolar = false) rfl (fun ha => ?_) h hs
  cases i with
  | setPolarity v => exact absurd rfl (hi v)
  | setBipolar => rfl
  | _ => exact ha

/-- Settles O49: no setter writes `isBuffered`. -/
theorem stepKeepsBuffered : Obligations.StepKeepsBuffered := by
  intro s t hs h
  refine step_keeps (fun _ _ _ hs => hs) (fun _ hs => hs) (fun i s t hs h => ?_) hs h
  refine forall_entryOf_of_exec (P := fun c => c.isBuffered = true) rfl (fun ha => ?_) h hs
  cases i <;> exact ha

end Sys2Proof.Proofs
end

section
/-! The shadow invariant (spec/10_state.md R36): the configuration word encodes the active entry because every update of either rebuilds it,
and the mode word mirrors the flag because every update of either sets both. -/
namespace Sys2Proof.Proofs
open Sys2Proof.Machine Sys2Proof.Laws

/-- The fields of the mode word that `ShadowInv` speaks of are above the rate code. -/
theorem modeFields_withRate (mode : Word) (rate : Byte) :
    (withRate mode rate).extractLsb' 13 3 = mode.extractLsb' 13 3 ∧
    (withRate mode rate).extractLsb' 8 5 = mode.extractLsb' 8 5 := by
  have h := extractLsb'_high_withRate mode rate
  have hbit : ∀ i < 8, (withRate mode rate).getLsbD (8 + i) = mode.getLsbD (8 + i) := fun i hi => by
    simpa [hi] using congrArg (BitVec.getLsbD · i) h
  constructor
  · refine BitVec.eq_of_getLsbD_eq fun i hi => ?_
    simpa [hi, ← Nat.add_assoc] using hbit (5 + i) (by omega)
  · refine BitVec.eq_of_getLsbD_eq fun i hi => ?_
    simpa [hi] using hbit i (by omega)

/-- The conversion mode's field lies above the five zero bits. -/
theorem zeroField_withConvMode (mode : Word) (single : Bool) :
    (withConvMode mode single).extractLsb' 8 5 = mode.extractLsb' 8 5 := by
  have h := extractLsb'_low_withConvMode mode single
  refine BitVec.eq_of_getLsbD_eq fun i hi => ?_
  simpa [hi, show 8 + i < 13 by omega] using congrArg (BitVec.getLsbD · (8 + i)) h

/-- The part of `ShadowInv` that is about the mode word: the flag mirrors the field, the field is one of the two codes, and the bits
below it are 0. -/
def ModeInv (mode : Word) (single : Bool) : Prop := mode.extractLsb' 13 3 = convCode single ∧ mode.extractLsb' 8 5 = 0

theorem modeInv_iff (mode : Word) (single : Bool) : ModeInv mode single ↔
    (single = true ↔ mode.extractLsb' 13 3 = 0b001) ∧
    (mode.extractLsb' 13 3 = 0b001 ∨ mode.extractLsb' 13 3 = 0b000) ∧ mode.extractLsb' 8 5 = 0 := by
  rw [ModeInv, ← and_assoc]
  refine and_congr_left fun _ => ?_
  generalize mode.extractLsb' 13 3 = field
  revert single field
  decide

theorem modeInv_withRate {mode : Word} {single : Bool} (h : ModeInv mode single) (rate : Byte) :
    ModeInv (withRate mode rate) single := by
  obtain ⟨hfield, hzero⟩ := modeFields_withRate mode rate
  rwa [ModeInv, hfield, hzero]

theorem modeInv_withConvMode {mode : Word} (h : mode.extractLsb' 8 5 = 0) (single : Bool) :
    ModeInv (withConvMode mode single) single :=
  ⟨extractLsb'_field_withConvMode mode single, (zeroField_withConvMode mode single).trans h⟩

theorem modeInv_defaultMode : ModeInv defaultMode true :=
  modeInv_withConvMode ((modeFields_withRate 0 _).2.trans (by decide)) true

/-- The shadow invariant as two independent halves: a configuration word that encodes the active entry has its unused bits 0. -/
theorem shadowInv_iff (s : State) : ShadowInv s ↔ (s.constructed = true →
    s.configRegister = encodeConfig s.activeChannel (activeEntry s) ∧ ModeInv s.modeRegister s.singleConversionMode) := by
  refine imp_congr_right fun _ => and_congr_right fun hconfig => ?_
  have hmask : s.configRegister &&& 0xE8E8 = 0 := hconfig ▸ encodeConfig_and_reservedMask _ _
  rw [modeInv_iff]
  simp only [hmask, and_true]

theorem shadowInv_congr {b t : State} (h : SameShadow b t) (hb : ShadowInv b) : ShadowInv t := by
  rw [shadowInv_iff, h.constructed, h.configRegister, h.activeChannel, h.modeRegister, h.singleConversionMode,
    show activeEntry t = activeEntry b by simp [activeEntry, h.channels, h.activeChannel]]
  exact (shadowInv_iff b).mp hb

/-- Selecting a channel rebuilds the configuration word from that channel's entry. -/
theorem shadowInv_withChannel {s : State} (h : ShadowInv s) (ch : Channel) : ShadowInv (withChannel ch s) := by
  rw [shadowInv_iff] at h ⊢
  exact fun hc => ⟨rfl, (h hc).2⟩

/-- The active entry after a setter's shadow update is what it wrote. -/
theorem activeEntry_withEntry (c : ChannelConfig) (s : State) : activeEntry (withEntry c s) = c :=
  activeEntry_setActiveEntry c s

/-- A setter of the active entry rebuilds the configuration word from what it wrote. -/
theorem shadowInv_withEntry {s : State} (h : ShadowInv s) (c : ChannelConfig) : ShadowInv (withEntry c s) := by
  rw [shadowInv_iff] at h ⊢
  exact fun hc => ⟨by rw [activeEntry_withEntry]; rfl, (h hc).2⟩

theorem shadowInv_shadowAfter {s : State} (h : ShadowInv s) (i : Instr) : ShadowInv (shadowAfter i s) := by
  cases i with
  | initializeDevice | setActiveChannel | getReadingRaw | getReadingVolts => exact shadowInv_withChannel h _
  | setGain | setBipolar | setPolarity => exact shadowInv_withEntry h _
  | setUpdateRate r =>
    rw [shadowInv_iff] at h ⊢
    exact fun hc => ⟨(h hc).1, modeInv_withRate (h hc).2 r⟩
  | setConversionMode v =>
    rw [shadowInv_iff] at h ⊢
    exact fun hc => ⟨(h hc).1, modeInv_withConvMode (h hc).2.2 v⟩
  | _ => exact h

/-- A state with the default shadow meets the invariant, whatever `DEFAULT_RATE_CODE` is (10 R34). -/
theorem shadowInv_afterConstruct (s : State) : ShadowInv (afterConstruct s) :=
  (shadowInv_iff _).mpr fun _ =>
    ⟨by simp [afterConstruct, activeEntry, defaultChannels]; decide, modeInv_defaultMode⟩

theorem shadowInv_of_exec {i : Instr} {s t : State} (hs : ShadowInv s) (h : exec i s = .next t) : ShadowInv t := by
  by_cases hi : i = .construct
  · subst hi
    rw [eq_afterConstruct h]
    exact shadowInv_afterConstruct s
  · obtain ⟨b, hb, hsame⟩ := reached_of_exec hi h
    refine shadowInv_congr hsame ?_
    cases hb with
    | kept => exact hs
    | written => exact shadowInv_shadowAfter hs i
    | selected _ ch => exact shadowInv_withChannel hs ch

/-- Settles O46. -/
theorem stepKeepsShadowInvariant : Obligations.StepKeepsShadowInvariant := fun _ _ =>
  step_keeps (fun _ _ _ hs => hs) (fun _ hs => hs) fun _ _ _ => shadowInv_of_exec

/-- The reset state is what `construct` would leave of itself. -/
theorem reset_eq_afterConstruct : State.reset = afterConstruct State.reset := by
  rw [afterConstruct, defaultMode_eq]; rfl

/-- Settles O47. -/
theorem resetMeetsShadowInvariant : Obligations.ResetMeetsShadowInvariant := by
  rw [Obligations.ResetMeetsShadowInvariant, reset_eq_afterConstruct]
  exact shadowInv_afterConstruct _

/-- Settles O50: every entry is the default one. -/
theorem resetIsBufferedAndClosed : Obligations.ResetIsBufferedAndClosed :=
  ⟨fun ch => by simp [entryOf, State.reset, ChannelConfig.default], rfl⟩

end Sys2Proof.Proofs
end

section
/-! How an instruction ends (spec/60_exceptions.md): its status, the flags of spec/10_state.md R30 to R32, and the events it appends, each
read off the four ways of `run_of_exec`. -/
namespace Sys2Proof.Proofs
open Sys2Proof.Machine Sys2Proof.Laws

/-! ### `construct`, and the frames before it -/

/-- Settles O19: as the host operations. -/
theorem notConstructedRefusesFrames : Obligations.NotConstructedRefusesFrames := fun i _ hi hc =>
  exec_of_not_constructed (i := i) (by rintro rfl; exact Bool.noConfusion hi) hc

/-- Settles O16: `construct` writes every field that is the block's but the line. -/
theorem resetIsWhatConstructLeaves : Obligations.ResetIsWhatConstructLeaves := fun s hside hline => by
  rw [constructResetsTheBlock.2 s, hside, hline]; rfl

/-- Settles O17. -/
theorem resetTableValues : Obligations.ResetTableValues := ⟨rfl, rfl, rfl, rfl, rfl, rfl, rfl, rfl, rfl⟩

/-! ### Statuses -/

/-- An instruction that does not reach the wire answers OK or `InvalidChannel` (60 R232, R233). -/
theorem quietResponse_status (i : Instr) :
    (quietResponse i).status = .ok ∨ (quietResponse i).status = .invalidChannel := by
  cases i with
  | getReadingRaw | getReadingVolts => exact .inr rfl
  | _ => exact .inl rfl

/-- What every abort leaves (60 R236). -/
theorem fields_of_aborted {full es : List Event} {b t : State} (h : Aborted full es b t) :
    t.fault = true ∧ t.csLevel = .released ∧ t.txnDepth = 0 ∧ t.response = ⟨.transportFailure, none, .nothing⟩ := by
  obtain ⟨_, _, _, _, _, _, _, rfl⟩ := h
  exact ⟨rfl, rfl, rfl, rfl⟩

/-- The status of an abort is no other. -/
theorem status_of_aborted {full es : List Event} {b t : State} (h : Aborted full es b t) :
    t.response.status = .transportFailure := by
  obtain ⟨_, _, _, hresponse⟩ := fields_of_aborted h
  rw [hresponse]

/-- No decoded instruction answers `IllegalCommand`. -/
theorem status_ne_illegalCommand {i : Instr} {s t : State} (h : exec i s = .next t) : t.response.status ≠ .illegalCommand := by
  cases run_of_exec h with
  | constructs hi => subst hi; rw [eq_afterConstruct h]; exact Status.noConfusion
  | answers _ r ht hr =>
    subst ht
    rcases hr with ⟨_, rfl⟩ | ⟨_, _, rfl⟩
    · exact Status.noConfusion
    · rcases quietResponse_status i with hq | hq <;> simp [hq]
  | runs _ _ _ _ r k ht => subst ht; exact Status.noConfusion
  | fails _ _ _ _ es ht => rw [status_of_aborted ht]; exact Status.noConfusion

/-- Settles O9: words that are not well formed do not decode, and of a decoded instruction each way to answer has another status. -/
theorem illegalCommandChangesNothing : Obligations.IllegalCommandChangesNothing := by
  refine ⟨fun s iss rest hp hw => ?_, fun i s t => status_ne_illegalCommand⟩
  cases hd : decode iss.words with
  | ok i => exact Bool.noConfusion (hw.symm.trans ((decode_isOk_iff _).mp ⟨i, hd⟩))
  | error e => rw [step_of_illegal hp hd]; rfl

/-- `TransportFailure` is the status of an aborted instruction only. -/
theorem aborted_of_status {i : Instr} {s t : State} (h : exec i s = .next t)
    (hs : t.response.status = .transportFailure) : ¬ TransportOk (answersNeeded i) s ∧
      ∃ es, Aborted (wireEvents i s) es (shadowAtFailure i (draws es) s) t := by
  cases run_of_exec h with
  | constructs hi => subst hi; rw [eq_afterConstruct h] at hs; exact Status.noConfusion hs
  | answers _ r ht hr =>
    subst ht
    rcases hr with ⟨_, rfl⟩ | ⟨_, _, rfl⟩
    · exact Status.noConfusion hs
    · rcases quietResponse_status i with hq | hq <;> exact Status.noConfusion (hq.symm.trans hs)
  | runs _ _ _ _ r k ht => subst ht; exact Status.noConfusion hs
  | fails _ _ _ hok es ht => exact ⟨hok, es, ht⟩

/-- Settles O42. -/
theorem failingInstructionsAbort : Obligations.FailingInstructionsAbort := by
  intro i s hc hw hfail
  have hi := ne_construct_of_reachesWire hw
  obtain ⟨es, ha⟩ := body_fails hi hw hfail
  exact ⟨es, _, ha, exec_eq_next_of_body hi hc rfl⟩

/-- An instruction that answers OK on a constructed block has only answered, or has run through. -/
theorem completed_of_ok {i : Instr} {s t : State} (hi : i ≠ .construct) (hc : s.constructed = true)
    (h : exec i s = .next t) (hok : t.response.status = .ok) :
    (reachesWire i = false ∧ t = respond (quietResponse i) s) ∨ (reachesWire i = true ∧ t = completed i s) := by
  cases run_of_exec h with
  | constructs hi' => exact absurd hi' hi
  | answers _ r ht hr =>
    rcases hr with ⟨hnc, _⟩ | ⟨_, hw, rfl⟩
    · exact Bool.noConfusion (hc.symm.trans hnc)
    · exact .inl ⟨hw, ht⟩
  | runs _ _ hw hans =>
    exact .inr ⟨hw, Host.Outcome.next.inj (h.symm.trans (exec_eq_completed hc hw hans))⟩
  | fails _ _ _ _ es ht => exact Status.noConfusion (hok.symm.trans (status_of_aborted ht))

/-- Settles O43. -/
theorem transportFailureAborts : Obligations.TransportFailureAborts := by
  intro i s t h hs
  obtain ⟨_, es, ha⟩ := aborted_of_status h hs
  obtain ⟨hfault, hlevel, hdepth, hresponse⟩ := fields_of_aborted ha
  rw [hresponse]
  exact ⟨hfault, hlevel, hdepth, rfl, rfl⟩

/-- The shadow updates leave `fault`. -/
theorem shadowAfter_fault (i : Instr) (s : State) : (shadowAfter i s).fault = s.fault := by cases i <;> rfl

/-- `fault` after an instruction: cleared by `construct`, set by an abort, else as it was (10 R30). -/
theorem fault_of_exec {i : Instr} {s t : State} (h : exec i s = .next t) :
    (i = .construct ∧ t.fault = false) ∨ (i ≠ .construct ∧ t.response.status = .transportFailure ∧ t.fault = true) ∨
      (i ≠ .construct ∧ t.fault = s.fault) := by
  cases run_of_exec h with
  | constructs hi => subst hi; rw [eq_afterConstruct h]; exact .inl ⟨rfl, rfl⟩
  | answers hi r ht => subst ht; exact .inr (.inr ⟨hi, rfl⟩)
  | runs hi _ _ _ r k ht => subst ht; exact .inr (.inr ⟨hi, shadowAfter_fault i s⟩)
  | fails hi _ _ _ es ht =>
    obtain ⟨hfault, _⟩ := fields_of_aborted ht
    exact .inr (.inl ⟨hi, status_of_aborted ht, hfault⟩)

/-- Settles O44. -/
theorem noFailureUnlessAllowed : Obligations.NoFailureUnlessAllowed := by
  intro i s t hmay h
  have hstatus : t.response.status ≠ .transportFailure := fun hs =>
    (aborted_of_status h hs).1 (transportOk_of_may_not_fail hmay _)
  refine ⟨hstatus, fun ht => ?_⟩
  rcases fault_of_exec h with ⟨_, hf⟩ | ⟨_, hs, _⟩ | ⟨_, hf⟩
  · exact Bool.noConfusion (hf.symm.trans ht)
  · exact absurd hs hstatus
  · exact hf ▸ ht

/-- Settles O45. -/
theorem faultIsSticky : Obligations.FaultIsSticky := by
  intro i s t h
  rcases fault_of_exec h with ⟨hi, hf⟩ | ⟨hi, hs, hf⟩ | ⟨hi, hf⟩
  · exact ⟨fun _ hne => absurd hi hne, fun ht => Bool.noConfusion (hf.symm.trans ht), fun _ => hf⟩
  · exact ⟨fun _ _ => hf, fun _ => .inr hs, fun he => absurd he hi⟩
  · exact ⟨fun hs _ => hf.trans hs, fun ht => .inl (hf ▸ ht), fun he => absurd he hi⟩

/-! ### Brackets and the line -/

/-- `construct` and an abort leave no bracket open, every other answer the depth it found (10 R38). -/
theorem bracketsClosed_of_exec {i : Instr} {s t : State} (hs : BracketsClosed s) (h : exec i s = .next t) :
    BracketsClosed t := by
  cases run_of_exec h with
  | constructs hi => subst hi; rw [eq_afterConstruct h]; exact rfl
  | answers hi r ht => subst ht; exact hs
  | runs _ _ _ _ r k ht => subst ht; exact hs
  | fails _ _ _ _ es ht =>
    obtain ⟨_, _, hdepth, _⟩ := fields_of_aborted ht
    exact hdepth

/-- Settles O48. -/
theorem stepKeepsBracketsClosed : Obligations.StepKeepsBracketsClosed := fun _ _ =>
  step_keeps (fun _ _ _ hs => hs) (fun _ hs => hs) fun _ _ _ => bracketsClosed_of_exec

/-- A host operation that runs through leaves the line asserted only as a continuous reading (10 R38). -/
theorem continuous_of_levelWhenDone {i : Instr} {s : State} (hi : i.isHostOperation = true) (hw : reachesWire i = true)
    (h : levelWhenDone i s = .asserted) : isReading i = true ∧ s.singleConversionMode = false := by
  have hread (hl : levelWhenDone i s = if s.singleConversionMode then .released else .asserted) :
      s.singleConversionMode = false := by
    cases hs : s.singleConversionMode with
    | false => rfl
    | true => rw [hl, hs] at h; exact CsLevel.noConfusion h
  cases i with
  | getReadingRaw ch => exact ⟨rfl, hread (levelWhenDone_getReadingRaw ch s)⟩
  | getReadingVolts ch => exact ⟨rfl, hread (levelWhenDone_getReadingVolts ch s)⟩
  | initializeDevice => rw [levelWhenDone_initializeDevice] at h; exact CsLevel.noConfusion h
  | construct | setInputBuffer => exact Bool.noConfusion hw
  | writeConfigRegister | writeModeRegister | startConversion | readConversionResult | resetFrame =>
    exact Bool.noConfusion hi
  | _ => exact CsLevel.noConfusion h

/-- Settles O52. -/
theorem chipSelectReleasedBetweenOperations : Obligations.ChipSelectReleasedBetweenOperations := by
  intro i s t hhost h hlevel
  cases run_of_exec h with
  | constructs hi => subst hi; rw [eq_afterConstruct h] at hlevel ⊢; exact .inl ⟨rfl, hlevel⟩
  | answers _ r ht => subst ht; exact .inl ⟨rfl, hlevel⟩
  | runs _ _ hw _ r k ht =>
    subst ht
    obtain ⟨hr, hm⟩ := continuous_of_levelWhenDone hhost hw hlevel
    exact .inr ⟨hr, hm, rfl⟩
  | fails _ _ _ _ es ht =>
    obtain ⟨_, hreleased, _⟩ := fields_of_aborted ht
    exact CsLevel.noConfusion (hreleased.symm.trans hlevel)

/-! ### Events -/

@[simp] theorem shadowAfter_events (i : Instr) (s : State) : (shadowAfter i s).events = s.events := by cases i <;> rfl

@[simp] theorem shadowAtFailure_events (i : Instr) (n : Nat) (s : State) :
    (shadowAtFailure i n s).events = s.events :=
  shadowAtFailure_elim (fun b => b.events = s.events) n (shadowAfter_events i s) rfl fun _ _ => rfl

/-- Settles O56. -/
theorem eventsAreOnlyAppended : Obligations.EventsAreOnlyAppended := by
  intro i s t h
  cases run_of_exec h with
  | constructs hi => subst hi; rw [eq_afterConstruct h]; exact ⟨[], (List.append_nil _).symm⟩
  | answers _ r ht => subst ht; exact ⟨[], (List.append_nil _).symm⟩
  | runs _ _ _ _ r k ht => subst ht; exact ⟨_, congrArg (· ++ _) (shadowAfter_events i s)⟩
  | fails _ _ _ _ es ht =>
    obtain ⟨_, _, _, _, _, _, _, rfl⟩ := ht
    exact ⟨_, congrArg (· ++ _) (shadowAtFailure_events i _ s)⟩

/-- A frame's events send its bytes (30 R95 to R97); `CS(high)` after the read sends none. -/
theorem sentBytes_wireEvents {i : Instr} (h : i.isHostOperation = false) (s : State) :
    sentBytes (wireEvents i s) = frameBytes i s := by
  cases i with
  | readConversionResult => cases hs : s.singleConversionMode <;> simp [wireEvents, singleRelease, hs] <;> rfl
  | writeConfigRegister | writeModeRegister | startConversion | resetFrame => rfl
  | _ => exact Bool.noConfusion h

/-- Settles O41: a frame that answers OK has run through. -/
theorem framesSendTheirBytes : Obligations.FramesSendTheirBytes := by
  intro i s t hframe hc h hok
  have hw : reachesWire i = true := by
    cases i with
    | writeConfigRegister | writeModeRegister | startConversion | readConversionResult | resetFrame => rfl
    | _ => exact Bool.noConfusion hframe
  rcases completed_of_ok (ne_construct_of_reachesWire hw) hc h hok with ⟨hnw, _⟩ | ⟨_, rfl⟩
  · exact Bool.noConfusion (hw.symm.trans hnw)
  · exact ⟨wireEvents i s, congrArg (· ++ _) (shadowAfter_events i s), sentBytes_wireEvents hframe s⟩

end Sys2Proof.Proofs
end

section
/-! Every exchange of a host operation is framed (spec/20_memory.md R70): its whole event list is, so every part of it up to a failing
primitive is, and the abort makes no exchange. -/
namespace Sys2Proof.Proofs
open Sys2Proof.Machine Sys2Proof.Laws

@[simp] theorem framed_append (l : CsLevel) (d : Nat) (es fs : List Event) :
    framed l d (es ++ fs) = (framed l d es && framed (levelAfter l es) (depthAfter d es) fs) := by
  induction es generalizing l d with
  | nil => rfl
  | cons e es ih => simp only [List.cons_append, framed, ih, Bool.and_assoc]; rfl

@[simp] theorem framed_writeFrameEvents (l : CsLevel) (d : Nat) (cmd : Byte) (v : Word) (k : Nat) (s : State) :
    framed l d (writeFrameEvents cmd v k s) = true := by
  simp [framed, writeFrameEvents, writeXfers, levelStep, depthStep]

@[simp] theorem framed_resetFrameEvents (l : CsLevel) (d k : Nat) (s : State) :
    framed l d (resetFrameEvents k s) = true := by simp [framed, resetFrameEvents, levelStep, depthStep]

theorem framed_bootEvents (l : CsLevel) (d : Nat) (s : State) : framed l d (bootEvents s) = true := by
  simp [bootEvents, bootPassEvents, framed]

theorem framed_readingEvents (l : CsLevel) (d : Nat) (cfg : Word) (s : State) :
    framed l d (readingEvents cfg s) = true := by
  cases hs : s.singleConversionMode <;>
    simp [readingEvents, singleRelease, hs, framed, writeXfers, readXfers, levelStep, depthStep, writeFrameEvents]

/-- The events of every host operation that runs through. -/
theorem framed_wireEvents {i : Instr} (hi : i.isHostOperation = true) (l : CsLevel) (d : Nat) (s : State) :
    framed l d (wireEvents i s) = true := by
  cases i with
  | initializeDevice => exact framed_bootEvents l d s
  | getReadingRaw | getReadingVolts => exact framed_readingEvents l d _ s
  | reset => exact framed_resetFrameEvents l d 0 s
  | construct | setInputBuffer => rfl
  | setActiveChannel | setGain | setBipolar | setPolarity | setUpdateRate | setConversionMode =>
    exact framed_writeFrameEvents l d _ _ 0 s
  | _ => exact Bool.noConfusion hi

/-- A primitive that fails is framed as it would have been. -/
theorem framed_failureOf {p e : Event} (h : failureOf p = some e) (l : CsLevel) (d : Nat) :
    framed l d [e] = framed l d [p] := by
  cases p with
  | xfer | txnBegin => cases h; rfl
  | _ => cases h

/-- The abort only releases the line and closes brackets (60 R236). -/
theorem framed_abortEvents (l l' : CsLevel) (d n : Nat) : framed l d (abortEvents l' n) = true := by
  have hclose : ∀ l d, framed l d (List.replicate n .txnEnd) = true := by
    induction n with
    | zero => exact fun _ _ => rfl
    | succ n ih => exact fun l d => by simpa [List.replicate_succ, framed] using ih _ _
  rw [abortEvents, framed_append, hclose]
  cases l' <;> rfl

/-- What an aborted instruction has emitted is framed if its whole event list is. -/
theorem framed_of_aborted {es rest : List Event} {p e : Event} {l l' : CsLevel} {d n : Nat}
    (h : framed l d (es ++ p :: rest) = true) (he : failureOf p = some e) :
    framed l d (es ++ [e] ++ abortEvents l' n) = true := by
  rw [List.append_cons, framed_append, framed_append, Bool.and_eq_true, Bool.and_eq_true] at h
  obtain ⟨⟨hes, hp⟩, _⟩ := h
  rw [framed_append, framed_append, framed_failureOf he, hes, hp, framed_abortEvents]; rfl

/-- Settles O58. -/
theorem exchangesAreFramed : Obligations.ExchangesAreFramed := by
  intro i s t hhost h
  cases run_of_exec h with
  | constructs hi => subst hi; rw [eq_afterConstruct h]; exact ⟨[], (List.append_nil _).symm, rfl⟩
  | answers _ r ht => subst ht; exact ⟨[], (List.append_nil _).symm, rfl⟩
  | runs _ _ _ _ r k ht =>
    subst ht
    exact ⟨_, congrArg (· ++ _) (shadowAfter_events i s), framed_wireEvents hhost _ _ s⟩
  | fails _ _ _ _ es ht =>
    obtain ⟨p, rest, e, hfull, he, _, _, rfl⟩ := ht
    exact ⟨_, congrArg (· ++ _) (shadowAtFailure_events i _ s),
      framed_of_aborted (hfull ▸ framed_wireEvents hhost s.csLevel s.txnDepth s) he⟩

end Sys2Proof.Proofs
end

section
/-! What received bytes can change (spec/41_wire_primitives.md R146): the same run is compared from a state and from that state with other
answers, which fail alike. Everything an operation leaves is a function of the failures, but for the bytes recorded in its events and
the three it keeps. -/
namespace Sys2Proof.Proofs
open Sys2Proof.Machine Sys2Proof.Laws

/-! ### Events without their received bytes -/

@[simp] theorem failureOf_withoutReceived (e : Event) : failureOf (withoutReceived e) = failureOf e := by cases e <;> rfl

@[simp] theorem draws_map_withoutReceived (es : List Event) : draws (es.map withoutReceived) = draws es := by
  simp [draws, List.filter_map, Function.comp_def]

@[simp] theorem levelAfter_map_withoutReceived (l : CsLevel) (es : List Event) :
    levelAfter l (es.map withoutReceived) = levelAfter l es := by
  rw [levelAfter, List.foldl_map]
  exact congrArg (fun f => es.foldl f l) (funext₂ fun _ e => by cases e <;> rfl)

@[simp] theorem depthAfter_map_withoutReceived (d : Nat) (es : List Event) :
    depthAfter d (es.map withoutReceived) = depthAfter d es := by
  rw [depthAfter, List.foldl_map]
  exact congrArg (fun f => es.foldl f d) (funext₂ fun _ e => by cases e <;> rfl)

/-- A primitive that can fail takes an answer. -/
theorem draws_cons_of_failureOf {p e : Event} (h : failureOf p = some e) (es : List Event) :
    draws (p :: es) = draws es + 1 := by simp [draws, h]

/-- Two cuts of one event list, each before a primitive that can fail, are the same cut if as many answers came before them. -/
theorem cut_unique {es es' rest rest' : List Event} {p p' e e' : Event} (hfull : es ++ p :: rest = es' ++ p' :: rest')
    (hp : failureOf p = some e) (hp' : failureOf p' = some e') (hd : draws es = draws es') : es = es' ∧ p = p' := by
  have hno : ∀ {q f : Event} (c : List Event), failureOf q = some f → draws (q :: c) ≠ 0 := fun c hq => by
    rw [draws_cons_of_failureOf hq]; omega
  rcases List.append_eq_append_iff.mp hfull with ⟨c, rfl, hc⟩ | ⟨c, rfl, hc⟩
  · cases c with
    | nil => exact ⟨(List.append_nil _).symm, (List.cons.inj hc).1⟩
    | cons q c =>
      obtain ⟨rfl, _⟩ := List.cons.inj hc
      rw [draws_append] at hd
      exact absurd (by omega) (hno c hp)
  · cases c with
    | nil => exact ⟨List.append_nil _, (List.cons.inj hc).1.symm⟩
    | cons q c =>
      obtain ⟨rfl, _⟩ := List.cons.inj hc
      rw [draws_append] at hd
      exact absurd (by omega) (hno c hp')

/-! ### A state with other answers that fail alike -/

theorem answerFails_withAnswers {s : State} {as : List Answer} (h : as.map Answer.fails = s.answers.map Answer.fails)
    (k : Nat) : answerFails k { s with answers := as } = answerFails k s := by
  have hlen : as.length = s.answers.length := by simpa using congrArg List.length h
  have hk : as[k]?.map Answer.fails = s.answers[k]?.map Answer.fails := by
    simpa using congrArg (·[k]?) h
  simp only [answerFails, answerAt, ← Option.getD_map Answer.fails, hk, hlen]

theorem transportOk_withAnswers {s : State} {as : List Answer} (h : as.map Answer.fails = s.answers.map Answer.fails)
    (n : Nat) : TransportOk n { s with answers := as } ↔ TransportOk n s := by
  simp only [TransportOk, answerFails_withAnswers h]

theorem shadowAfter_withAnswers (i : Instr) (s : State) (as : List Answer) :
    shadowAfter i { s with answers := as } = { shadowAfter i s with answers := as } := by cases i <;> rfl

theorem shadowAtFailure_withAnswers (i : Instr) (n : Nat) (s : State) (as : List Answer) :
    shadowAtFailure i n { s with answers := as } = { shadowAtFailure i n s with answers := as } := by
  cases i with
  | initializeDevice => simp only [shadowAtFailure, bootShadow]; split_ifs <;> rfl
  | getReadingRaw | getReadingVolts => simp only [shadowAtFailure]; split_ifs <;> rfl
  | _ => rfl

/-- The shadow updates leave what the answers are drawn from. -/
theorem answerFails_shadowAtFailure (i : Instr) (n k : Nat) (s : State) :
    answerFails k (shadowAtFailure i n s) = answerFails k s :=
  shadowAtFailure_elim (fun b => answerFails k b = answerFails k s) n (by cases i <;> rfl) rfl fun _ _ => rfl

/-- The answers are read for the bytes in an instruction's events only. -/
theorem wireEvents_withAnswers (i : Instr) (s : State) (as : List Answer) :
    (wireEvents i { s with answers := as }).map withoutReceived = (wireEvents i s).map withoutReceived := by
  cases i with
  | getReadingRaw | getReadingVolts | readConversionResult =>
    cases hs : s.singleConversionMode <;> simp [wireEvents, readingEvents, singleRelease, hs] <;> rfl
  | _ => rfl

/-- The bytes an instruction keeps are all that its result has of the answers' bytes. -/
theorem okResult_withAnswers {i : Instr} {s : State} {as : List Answer} (hlen : as.length = s.answers.length)
    (h : ∀ k ∈ keptAnswers i, byteAt k { s with answers := as } = byteAt k s) :
    okResult i { s with answers := as } = okResult i s := by
  have hraw (k : Nat) (hk : keptAnswers i = [k + 1, k + 2, k + 3]) :
      rawAt k { s with answers := as } = rawAt k s := by
    rw [rawAt, rawAt, h _ (by simp [hk]), h _ (by simp [hk]), h _ (by simp [hk])]
  cases i with
  | getReadingRaw ch => rw [okResult, okResult, hraw 8 rfl]
  | getReadingVolts ch => rw [okResult, okResult, voltsOf, voltsOf, hraw 8 rfl, hlen]; rfl
  | readConversionResult => rw [okResult, okResult, hraw 0 rfl]
  | _ => rfl

/-! ### Two runs -/

/-- `t`, and `u` from the same state with the answers `as`: as many answers used up, the same events but for the received bytes, and else
the same state. -/
def SameButReceived (s : State) (as : List Answer) (t u : State) : Prop :=
  ∃ n es fs, t.answers = s.answers.drop n ∧ t.events = s.events ++ es ∧
    u = { t with answers := as.drop n, events := s.events ++ fs } ∧ fs.map withoutReceived = es.map withoutReceived

/-- An instruction that takes no answer and emits nothing. -/
theorem sameButReceived_of_silent {s t : State} {as : List Answer} (ha : t.answers = s.answers)
    (he : t.events = s.events) : SameButReceived s as t { t with answers := as } :=
  ⟨0, [], [], ha, by rw [he, List.append_nil], by rw [List.append_nil, ← he]; rfl, rfl⟩

/-- An instruction that runs through. -/
theorem sameButReceived_completed {i : Instr} {s : State} {as : List Answer}
    (hlen : as.length = s.answers.length) (h : ∀ k ∈ keptAnswers i, byteAt k { s with answers := as } = byteAt k s) :
    SameButReceived s as (completed i s) (completed i { s with answers := as }) := by
  have hev := wireEvents_withAnswers i s as
  have hlevel : levelWhenDone i { s with answers := as } = levelWhenDone i s := by
    rw [levelWhenDone, levelWhenDone, ← levelAfter_map_withoutReceived, hev, levelAfter_map_withoutReceived]
  have hfree : freeVoltsTaken i { s with answers := as } = freeVoltsTaken i s := by cases i <;> rfl
  refine ⟨answersNeeded i, wireEvents i s, wireEvents i { s with answers := as }, by cases i <;> rfl,
    congrArg (· ++ _) (shadowAfter_events i s), ?_, hev⟩
  rw [completed, completed, okResult_withAnswers hlen h, hlevel, hfree, shadowAfter_withAnswers, hlen]
  simp only [afterOperation, shadowAfter_events]

/-- An instruction that fails: at the same primitive in both runs. -/
theorem sameButReceived_aborted {i : Instr} {s t u : State} {as : List Answer} {es fs : List Event}
    (hfails : as.map Answer.fails = s.answers.map Answer.fails)
    (ht : Aborted (wireEvents i s) es (shadowAtFailure i (draws es) s) t)
    (hu : Aborted (wireEvents i { s with answers := as }) fs
      (shadowAtFailure i (draws fs) { s with answers := as }) u) : SameButReceived s as t u := by
  have hlen : as.length = s.answers.length := by simpa using congrArg List.length hfails
  obtain ⟨p, rest, e, hfull, he, hok, hbad, rfl⟩ := ht
  obtain ⟨p', rest', e', hfull', he', hok', hbad', rfl⟩ := hu
  simp only [TransportOk, answerFails_shadowAtFailure, answerFails_withAnswers hfails] at hok hbad hok' hbad'
  have hn : draws fs = draws es := Nat.le_antisymm (first_failure_ge hbad hok') (first_failure_ge hbad' hok)
  have hcut : (fs.map withoutReceived) ++ withoutReceived p' :: rest'.map withoutReceived =
      es.map withoutReceived ++ withoutReceived p :: rest.map withoutReceived := by
    simpa [hfull, hfull'] using wireEvents_withAnswers i s as
  obtain ⟨hes, hp⟩ := cut_unique hcut ((failureOf_withoutReceived p').trans he')
    ((failureOf_withoutReceived p).trans he) (by simpa using hn)
  obtain rfl : e' = e := Option.some.inj (by
    rw [← he', ← he, ← failureOf_withoutReceived p', ← failureOf_withoutReceived p, hp])
  have hlevel (l : CsLevel) : levelAfter l fs = levelAfter l es := by
    rw [← levelAfter_map_withoutReceived, hes, levelAfter_map_withoutReceived]
  have hdepth (d : Nat) : depthAfter d fs = depthAfter d es := by
    rw [← depthAfter_map_withoutReceived, hes, depthAfter_map_withoutReceived]
  have hanswers : (shadowAtFailure i (draws es) s).answers = s.answers :=
    shadowAtFailure_elim (fun b => b.answers = s.answers) _ (by cases i <;> rfl) rfl fun _ _ => rfl
  refine ⟨draws es + 1, _, fs ++ [e'] ++ abortEvents (levelAfter (shadowAtFailure i (draws es) s).csLevel es)
    (depthAfter (shadowAtFailure i (draws es) s).txnDepth es), by rw [hanswers],
    congrArg (· ++ _) (shadowAtFailure_events i _ s), ?_, by simp [hes]⟩
  rw [hn, shadowAtFailure_withAnswers]
  simp only [hlevel, hdepth, hlen, hanswers, shadowAtFailure_events]

/-- Settles O57: the failures decide which way both runs go, and each way they leave the same but for received bytes. -/
theorem receivedBytesAreDiscarded : Obligations.ReceivedBytesAreDiscarded := by
  intro i s t u as hfails hkept ht hu
  have hlen : as.length = s.answers.length := by simpa using congrArg List.length hfails
  have hrun {x y : State} (hx : exec i s = .next x) (hy : exec i { s with answers := as } = .next y)
      (hxy : SameButReceived s as x y) : SameButReceived s as t u := by
    rwa [Host.Outcome.next.inj (ht.symm.trans hx), Host.Outcome.next.inj (hu.symm.trans hy)]
  change SameButReceived s as t u
  by_cases hi : i = .construct
  · subst hi
    rw [eq_afterConstruct ht, eq_afterConstruct hu]
    exact sameButReceived_of_silent (t := afterConstruct s) rfl rfl
  cases hc : s.constructed with
  | false =>
    exact hrun (exec_of_not_constructed hi hc) (exec_of_not_constructed hi hc) (sameButReceived_of_silent rfl rfl)
  | true =>
    cases hw : reachesWire i with
    | false =>
      exact hrun (exec_of_not_reachesWire hi hc hw) (exec_of_not_reachesWire hi hc hw)
        (sameButReceived_of_silent rfl rfl)
    | true =>
      by_cases hok : TransportOk (answersNeeded i) s
      · exact hrun (exec_eq_completed hc hw hok)
          (exec_eq_completed hc hw ((transportOk_withAnswers hfails _).mpr hok)) (sameButReceived_completed hlen hkept)
      · obtain ⟨es, hes⟩ := body_fails hi hw hok
        obtain ⟨fs, hfs⟩ := body_fails hi hw fun h => hok ((transportOk_withAnswers hfails _).mp h)
        exact hrun (exec_eq_next_of_body hi hc rfl) (exec_eq_next_of_body hi hc rfl)
          (sameButReceived_aborted hfails hes hfs)

end Sys2Proof.Proofs
end

section
/-! The device stub (spec/20_memory.md R66) under the block's events: what each frame leaves in its registers, and from that the two
statements about device and shadow (spec/10_state.md R35, spec/70_reset_and_hazards.md R277). -/
namespace Sys2Proof.Proofs
open Sys2Proof.Machine Sys2Proof.Laws

@[simp] theorem deviceAfter_append (d : Device) (es fs : List Event) :
    deviceAfter d (es ++ fs) = deviceAfter (deviceAfter d es) fs := List.foldl_append

/-! ### Exchanges outside a reset -/

/-- The exchanges `xs`, each the controller's byte and the device's, within the frame grammar alone. -/
def exchanged (d : Device) (xs : List (Byte × Byte)) : Device := xs.foldl (fun d x => deviceByte x.1 x.2 d) d

theorem deviceByte_csLevel (out inp : Byte) (d : Device) : (deviceByte out inp d).csLevel = d.csLevel := by
  unfold deviceByte; split <;> rfl

theorem exchanged_csLevel (d : Device) (xs : List (Byte × Byte)) : (exchanged d xs).csLevel = d.csLevel := by
  induction xs generalizing d with
  | nil => rfl
  | cons x xs ih => exact (ih _).trans (deviceByte_csLevel x.1 x.2 d)

/-- The frame grammar does not look at the count of ones. -/
theorem deviceByte_onesBytes (out inp : Byte) (d : Device) (n : Nat) :
    deviceByte out inp { d with onesBytes := n } = { deviceByte out inp d with onesBytes := n } := by
  obtain ⟨_, _, _, _, pos, _⟩ := d
  cases pos <;> rfl

theorem exchanged_onesBytes (d : Device) (n : Nat) (xs : List (Byte × Byte)) :
    exchanged { d with onesBytes := n } xs = { exchanged d xs with onesBytes := n } := by
  induction xs generalizing d with
  | nil => rfl
  | cons x xs ih =>
    simp only [exchanged, List.foldl_cons, deviceByte_onesBytes] at ih ⊢
    exact ih _

theorem onesAfter_le (out : Byte) (d : Device) : onesAfter out d ≤ d.onesBytes + 1 := by
  unfold onesAfter; split <;> omega

/-- An exchange that does not complete a reset. -/
theorem deviceXfer_eq {d : Device} (out inp : Byte) (hl : d.csLevel = .asserted) (h : onesAfter out d < 4) :
    deviceXfer out inp d = { deviceByte out inp d with onesBytes := onesAfter out d } := by
  rw [deviceXfer, hl]
  exact if_neg (Nat.not_le.mpr h)

/-- Exchanges too few to complete a reset are those of the frame grammar. -/
theorem deviceAfter_exchanges {d : Device} (xs : List (Byte × Byte)) (hl : d.csLevel = .asserted)
    (h : d.onesBytes + xs.length < 4) :
    ∃ n, deviceAfter d (xs.map fun x => .xfer x.1 x.2) = { exchanged d xs with onesBytes := n } := by
  induction xs generalizing d with
  | nil => exact ⟨d.onesBytes, rfl⟩
  | cons x xs ih =>
    have hones := onesAfter_le x.1 d
    rw [List.length_cons] at h
    have hx := deviceXfer_eq x.1 x.2 hl (by omega)
    obtain ⟨n, hn⟩ := ih (d := deviceXfer x.1 x.2 d) (by rw [hx]; exact (deviceByte_csLevel _ _ _).trans hl)
      (by rw [hx]; exact Nat.lt_of_le_of_lt (Nat.add_le_add_right hones _) (by omega))
    refine ⟨n, hn.trans ?_⟩
    rw [hx, exchanged_onesBytes]; rfl

/-- The same of a frame of up to four bytes, whose command byte is not one of ones, whatever was counted before. -/
theorem deviceAfter_frame {d : Device} {cmd : Byte} (inp : Byte) (xs : List (Byte × Byte)) (hl : d.csLevel = .asserted)
    (hcmd : cmd ≠ 0xFF) (h : xs.length < 4) :
    ∃ n, deviceAfter d (((cmd, inp) :: xs).map fun x => .xfer x.1 x.2) =
      { exchanged d ((cmd, inp) :: xs) with onesBytes := n } := by
  have hones : onesAfter cmd d = 0 := if_neg hcmd
  have hx := deviceXfer_eq cmd inp hl (by omega)
  obtain ⟨n, hn⟩ := deviceAfter_exchanges (d := deviceXfer cmd inp d) xs
    (by rw [hx]; exact (deviceByte_csLevel _ _ _).trans hl) (by rw [hx, hones]; exact (Nat.zero_add _).trans_lt h)
  refine ⟨n, hn.trans ?_⟩
  rw [hx, exchanged_onesBytes]; rfl

/-! ### What the frames leave in the registers -/

/-- The stub sees the line at `l`, is between frames, and holds these register values. -/
structure DeviceHolds (l : CsLevel) (config mode : Option Word) (d : Device) : Prop where
  csLevel : d.csLevel = l
  pos : d.pos = .idle
  devConfig : d.devConfig = config
  devMode : d.devMode = mode

/-- A word sent high byte first arrives as it was (20 R63). -/
theorem high_append_low (v : Word) : v.extractLsb' 8 8 ++ v.extractLsb' 0 8 = v := by
  rw [BitVec.extractLsb'_append_extractLsb'_eq_extractLsb' (by decide), BitVec.extractLsb'_eq_self]

/-- The exchanges of a write frame, and what its bytes select and write. -/
theorem holds_config_xfers {c m : Option Word} {d : Device} (h : DeviceHolds .asserted c m d) (v : Word) (k : Nat)
    (s : State) : DeviceHolds .asserted (some v) m (deviceAfter d (writeXfers 0x10 v k s)) := by
  obtain ⟨hl, hpos, _, hmode⟩ := h
  obtain ⟨n, hn⟩ := deviceAfter_frame (cmd := 0x10) (byteAt k s)
    [(v.extractLsb' 8 8, byteAt (k + 1) s), (v.extractLsb' 0 8, byteAt (k + 2) s)] hl (by decide)
    (Nat.le_of_ble_eq_true rfl)
  rw [writeXfers]
  refine hn ▸ ⟨(exchanged_csLevel d _).trans hl, ?_, ?_, ?_⟩ <;>
    simp [exchanged, deviceByte, hpos, deviceSelect, hmode, high_append_low]

theorem holds_mode_xfers {c m : Option Word} {d : Device} (h : DeviceHolds .asserted c m d) (v : Word) (k : Nat)
    (s : State) : DeviceHolds .asserted c (some v) (deviceAfter d (writeXfers 0x08 v k s)) := by
  obtain ⟨hl, hpos, hconfig, _⟩ := h
  obtain ⟨n, hn⟩ := deviceAfter_frame (cmd := 0x08) (byteAt k s)
    [(v.extractLsb' 8 8, byteAt (k + 1) s), (v.extractLsb' 0 8, byteAt (k + 2) s)] hl (by decide)
    (Nat.le_of_ble_eq_true rfl)
  rw [writeXfers]
  refine hn ▸ ⟨(exchanged_csLevel d _).trans hl, ?_, ?_, ?_⟩ <;>
    simp [exchanged, deviceByte, hpos, deviceSelect, hconfig, high_append_low]

/-- The exchanges of the read frame write neither register. -/
theorem holds_read_xfers {c m : Option Word} {d : Device} (h : DeviceHolds .asserted c m d) (k : Nat) (s : State) :
    DeviceHolds .asserted c m (deviceAfter d (readXfers k s)) := by
  obtain ⟨hl, hpos, hconfig, hmode⟩ := h
  obtain ⟨n, hn⟩ := deviceAfter_frame (cmd := 0x58) (byteAt k s)
    [(Config.dummyByte, byteAt (k + 1) s), (Config.dummyByte, byteAt (k + 2) s), (Config.dummyByte, byteAt (k + 3) s)]
    hl (by decide) (Nat.le_of_ble_eq_true rfl)
  rw [readXfers]
  refine hn ▸ ⟨(exchanged_csLevel d _).trans hl, ?_, ?_, ?_⟩ <;>
    simp [exchanged, deviceByte, hpos, deviceSelect, hconfig, hmode]

/-- Driving the line leaves what a stub between frames holds. -/
theorem holds_csLow {l : CsLevel} {c m : Option Word} {d : Device} (h : DeviceHolds l c m d) :
    DeviceHolds .asserted c m (deviceAfter d [.csLow]) := ⟨rfl, h.pos, h.devConfig, h.devMode⟩

theorem holds_csHigh {l : CsLevel} {c m : Option Word} {d : Device} (h : DeviceHolds l c m d) :
    DeviceHolds .released c m (deviceAfter d [.csHigh]) := ⟨rfl, h.pos, h.devConfig, h.devMode⟩

/-- The configuration frame writes the device's configuration register. -/
theorem holds_config_frame {l : CsLevel} {c m : Option Word} {d : Device} (h : DeviceHolds l c m d) (v : Word) (k : Nat)
    (s : State) : DeviceHolds .released (some v) m (deviceAfter d (writeFrameEvents 0x10 v k s)) := by
  rw [writeFrameEvents, deviceAfter_append, deviceAfter_append]
  exact holds_csHigh (holds_config_xfers (holds_csLow h) v (k + 1) s)

/-- The mode frame writes the device's mode register. -/
theorem holds_mode_frame {l : CsLevel} {c m : Option Word} {d : Device} (h : DeviceHolds l c m d) (v : Word) (k : Nat)
    (s : State) : DeviceHolds .released c (some v) (deviceAfter d (writeFrameEvents 0x08 v k s)) := by
  rw [writeFrameEvents, deviceAfter_append, deviceAfter_append]
  exact holds_csHigh (holds_mode_xfers (holds_csLow h) v (k + 1) s)

/-- A reading writes both registers, and leaves the line asserted in continuous mode (43 R194). -/
theorem holds_reading {l : CsLevel} {c m : Option Word} {d : Device} (h : DeviceHolds l c m d) (cfg : Word) (s : State) :
    DeviceHolds (if s.singleConversionMode then .released else .asserted) (some cfg) (some s.modeRegister)
      (deviceAfter d (readingEvents cfg s)) := by
  simp only [readingEvents, deviceAfter_append]
  have hread := holds_read_xfers (holds_mode_xfers (holds_csLow (holds_config_frame h cfg 1 s)) s.modeRegister 5 s) 8 s
  cases hs : s.singleConversionMode with
  | true => rw [singleRelease, hs]; exact holds_csHigh hread
  | false => rw [singleRelease, hs]; exact hread

/-! ### The device reset -/

/-- A byte of ones between frames selects nothing: it is counted, and from the fourth on it resets. -/
theorem deviceXfer_ones {d : Device} (inp : Byte) (hl : d.csLevel = .asserted) (hp : d.pos = .idle) :
    deviceXfer 0xFF inp d = { (if 3 ≤ d.onesBytes then deviceReset d else d) with onesBytes := d.onesBytes + 1 } := by
  have hones : onesAfter 0xFF d = d.onesBytes + 1 := if_pos rfl
  have hbyte : deviceByte 0xFF inp d = d := by
    obtain ⟨_, _, _, _, pos, _⟩ := d
    cases hp; rfl
  rw [deviceXfer, hl]
  simp only [hones, deviceResetBytes, hbyte, Nat.add_le_add_iff_right (n := 1) (m := 3)]
  split_ifs <;> rfl

/-- After bytes of ones alone, `n` counted in all: the stub is as `d` was, or reset. -/
def AfterOnes (d : Device) (n : Nat) (e : Device) : Prop :=
  e = { d with onesBytes := n } ∨ e = { deviceReset d with onesBytes := n }

theorem afterOnes_xfer {d e : Device} {n : Nat} (hl : d.csLevel = .asserted) (hp : d.pos = .idle) (h : AfterOnes d n e)
    (inp : Byte) : AfterOnes d (n + 1) (deviceXfer 0xFF inp e) := by
  rcases h with rfl | rfl
  · rw [deviceXfer_ones (d := { d with onesBytes := n }) inp hl hp]
    split_ifs
    · exact .inr rfl
    · exact .inl rfl
  · rw [deviceXfer_ones (d := { deviceReset d with onesBytes := n }) inp hl rfl]
    split_ifs <;> exact .inr rfl

/-- The fourth byte of ones has reset the stub, if none before it has. -/
theorem reset_of_afterOnes {d e : Device} {n : Nat} (hl : d.csLevel = .asserted) (hp : d.pos = .idle)
    (h : AfterOnes d n e) (hn : 3 ≤ n) (inp : Byte) :
    deviceXfer 0xFF inp e = { deviceReset d with onesBytes := n + 1 } := by
  rcases h with rfl | rfl
  · rw [deviceXfer_ones (d := { d with onesBytes := n }) inp hl hp, if_pos (by exact hn)]; rfl
  · rw [deviceXfer_ones (d := { deviceReset d with onesBytes := n }) inp hl rfl, if_pos (by exact hn)]; rfl

/-- The reset frame resets the stub, whatever it counted before (20 R66). -/
theorem deviceAfter_resetFrame {d : Device} (hp : d.pos = .idle) (k : Nat) (s : State) :
    deviceAfter d (resetFrameEvents k s) = { deviceReset d with csLevel := .released, onesBytes := 0 } := by
  have hl : (deviceAfter d [.txnBegin, .csLow]).csLevel = .asserted := rfl
  have hpos : (deviceAfter d [.txnBegin, .csLow]).pos = .idle := hp
  have h0 : AfterOnes (deviceAfter d [.txnBegin, .csLow]) d.onesBytes (deviceAfter d [.txnBegin, .csLow]) := .inl rfl
  have h1 := afterOnes_xfer hl hpos h0 (byteAt (k + 1) s)
  have h2 := afterOnes_xfer hl hpos h1 (byteAt (k + 2) s)
  have h3 := afterOnes_xfer hl hpos h2 (byteAt (k + 3) s)
  have h4 := reset_of_afterOnes hl hpos h3 (by omega) (byteAt (k + 4) s)
  exact (congrArg (deviceAfter · [.csHigh, .txnEnd]) h4 :)

theorem holds_reset_frame {l : CsLevel} {c m : Option Word} {d : Device} (h : DeviceHolds l c m d) (k : Nat) (s : State) :
    DeviceHolds .released none none (deviceAfter d (resetFrameEvents k s)) := by
  rw [deviceAfter_resetFrame h.pos]
  exact ⟨rfl, rfl, rfl, rfl⟩

/-- The bootstrap resets the stub, and its frames then write both registers, last the word of channel 0 (43 R192). -/
theorem holds_boot {l : CsLevel} {c m : Option Word} {d : Device} (h : DeviceHolds l c m d) (s : State) :
    DeviceHolds .released (some (configWordOf 0 s)) (some s.modeRegister) (deviceAfter d (bootEvents s)) := by
  have hpass {l c m d} (h : DeviceHolds l c m d) (i : Nat) : DeviceHolds .released
      (some (configWordOf (BitVec.ofNat 3 i) s)) (some s.modeRegister) (deviceAfter d (bootPassEvents i s)) := by
    rw [bootPassEvents, deviceAfter_append]
    exact holds_mode_frame (holds_config_frame h _ _ s) _ _ s
  simp only [bootEvents, deviceAfter_append]
  exact holds_config_frame (hpass (hpass (hpass (hpass (hpass (hpass (holds_reset_frame h 0 s) 0) 1) 2) 3) 4) 5) _ 53 s

/-! ### Device and shadow -/

/-- What the device holds after a host operation other than `reset` has run through: the shadow's words in the registers the operation
writes, and in the others what it held. -/
theorem holds_wireEvents {i : Instr} {l : CsLevel} {c m : Option Word} {d : Device} (hi : i.isHostOperation = true)
    (hreset : i ≠ .reset) (hw : reachesWire i = true) (h : DeviceHolds l c m d) (s : State) :
    DeviceHolds (levelWhenDone i s) (if writesConfig i then some (shadowAfter i s).configRegister else c)
      (if writesMode i then some (shadowAfter i s).modeRegister else m) (deviceAfter d (wireEvents i s)) := by
  cases i with
  | initializeDevice => rw [levelWhenDone_initializeDevice]; exact holds_boot h s
  | setGain | setBipolar | setPolarity => exact holds_config_frame h _ 0 s
  | setUpdateRate | setConversionMode => exact holds_mode_frame h _ 0 s
  | setActiveChannel ch =>
    rw [if_pos (show writesConfig (.setActiveChannel ch) = true from hw)]
    exact holds_config_frame h _ 0 s
  | getReadingRaw ch =>
    rw [levelWhenDone_getReadingRaw, if_pos (show writesConfig (.getReadingRaw ch) = true from hw),
      if_pos (show writesMode (.getReadingRaw ch) = true from hw)]
    exact holds_reading h _ s
  | getReadingVolts ch =>
    rw [levelWhenDone_getReadingVolts, if_pos (show writesConfig (.getReadingVolts ch) = true from hw),
      if_pos (show writesMode (.getReadingVolts ch) = true from hw)]
    exact holds_reading h _ s
  | reset => exact absurd rfl hreset
  | construct | setInputBuffer => exact Bool.noConfusion hw
  | writeConfigRegister | writeModeRegister | startConversion | readConversionResult | resetFrame =>
    exact Bool.noConfusion hi

/-- An operation that does not write the device's register does not write the shadow's (10 R35). -/
theorem configRegister_of_not_writesConfig {i : Instr} (hw : reachesWire i = true) (h : writesConfig i = false)
    (s : State) : (shadowAfter i s).configRegister = s.configRegister := by
  cases i with
  | initializeDevice | setGain | setBipolar | setPolarity => exact Bool.noConfusion h
  | setActiveChannel | getReadingRaw | getReadingVolts => exact Bool.noConfusion (h.symm.trans hw)
  | _ => rfl

theorem modeRegister_of_not_writesMode {i : Instr} (h : writesMode i = false) (s : State) :
    (shadowAfter i s).modeRegister = s.modeRegister := by
  cases i with
  | setUpdateRate | setConversionMode => exact Bool.noConfusion h
  | _ => rfl

/-- An operation that does not reach the wire writes neither register of the device. -/
theorem writes_of_not_reachesWire {i : Instr} (h : reachesWire i = false) :
    writesConfig i = false ∧ writesMode i = false := by
  cases i with
  | setActiveChannel => exact ⟨h, rfl⟩
  | getReadingRaw | getReadingVolts => exact ⟨h, h⟩
  | construct | setInputBuffer => exact ⟨rfl, rfl⟩
  | _ => exact Bool.noConfusion h

/-- Settles O59: an operation that only answers changes neither side, and one that runs through leaves the stub what
`holds_wireEvents` says. -/
theorem deviceFollowsShadow : Obligations.DeviceFollowsShadow := by
  intro i s t d hhost hi hreset hc _ hidle h hok
  rcases completed_of_ok hi hc h hok with ⟨hw, rfl⟩ | ⟨hw, rfl⟩
  · obtain ⟨hconfig, hmode⟩ := writes_of_not_reachesWire hw
    refine ⟨[], (List.append_nil _).symm, hidle, fun hsync => ?_, fun hsync => ?_⟩
    · exact hsync.resolve_left (by simp [hconfig])
    · exact hsync.resolve_left (by simp [hmode])
  · obtain ⟨hlevel, hpos, hconfig, hmode⟩ :=
      holds_wireEvents hhost hreset hw (d := d) ⟨rfl, hidle.2, rfl, rfl⟩ s
    refine ⟨wireEvents i s, congrArg (· ++ _) (shadowAfter_events i s), ⟨hlevel, hpos⟩, fun hsync => ?_, fun hsync => ?_⟩
    · refine hconfig.trans ?_
      cases hwrites : writesConfig i with
      | true => rfl
      | false =>
        rw [hwrites] at hsync
        exact (hsync.resolve_left Bool.false_ne_true).trans
          (congrArg some (configRegister_of_not_writesConfig hw hwrites s).symm)
    · refine hmode.trans ?_
      cases hwrites : writesMode i with
      | true => rfl
      | false =>
        rw [hwrites] at hsync
        exact (hsync.resolve_left Bool.false_ne_true).trans
          (congrArg some (modeRegister_of_not_writesMode hwrites s).symm)

/-- Settles O60. -/
theorem deviceResetForgetsRegisters : Obligations.DeviceResetForgetsRegisters := by
  intro s t d hc _ hidle h hok
  obtain ⟨hw, _⟩ | ⟨_, rfl⟩ := completed_of_ok (i := .reset) (by simp) hc h hok
  · exact Bool.noConfusion hw
  · refine ⟨rfl, rfl, resetFrameEvents 0 s, rfl, ?_⟩
    rw [deviceAfter_resetFrame hidle.2]
    exact ⟨⟨rfl, rfl⟩, rfl, rfl, rfl⟩

end Sys2Proof.Proofs
end
